-- ==== Sys2Proof/Word.lean ====
section
/-! DEFINITION. The words of the engine: 32-bit registers and packet words (spec/00_scope.md R3 REG_WIDTH,
R5 bit numbering), the 16-bit chip-select and bit counts, the 8-bit codes. -/

namespace Sys2Proof

/-- A 32-bit register or packet word (R3, R5); bit 0 is the least significant. -/
abbrev Word := BitVec 32

/-- A 16-bit field: chip-select, bit counts, stored detune (R9, R50, R53). -/
abbrev Half := BitVec 16

/-- An 8-bit field: clock-source code, speed code, payload byte (R9, R50, R54, R55). -/
abbrev Byte := BitVec 8

end Sys2Proof
end

