-- ==== Sys2Proof/Config.lean ====
section
/-! DEFINITION. What an implementation fixes: the open parameters of spec/00_scope.md R4 with their constraints
(R31, R34, R37), the vocabulary they are stated in, and the free values (device answers, R2 and R63; the platform's
configuration). The constants the source fixes (R3) stand in Machine/Parameters.lean. -/

namespace Sys2Proof

/-- The three speed modes, by name (R9, R100). The multipliers 1, 2, 4 are `SpeedMode.multiplier`. -/
inductive SpeedMode where
  | slow
  | normal
  | fast
deriving DecidableEq, Repr, Inhabited

/-- The normalized, caller-facing clock sources (00_scope.md section 7, R99): Internal, SyncBus, InputPort1..N. -/
inductive ClockSource where
  | internal
  | syncBus
  | inputPort (k : Nat)
deriving DecidableEq, Repr, Inhabited

/-- The eleven device registers the engine drives (R20). It accesses nothing else (R31, R71), so an access names
one of these. -/
inductive DevReg where
  | busStatus
  | busCs
  | busWbits
  | busRbits
  | busData
  | measSelect
  | meas
  | dco
  | speedClksel
  | speedMode
  | clockSource
deriving DecidableEq, Repr, Inhabited

/-- The tags of diagnostic records: "The only tag is `PREPOLL_TIMEOUT`" (R66). -/
inductive DiagTag where
  | prepollTimeout
deriving DecidableEq, Repr, Inhabited

/-- The events of a trace (R8): `W(off, v)`, `R(off, v)`, `D`, `L(tag)`. Offsets are byte offsets into the window. -/
inductive Event where
  | write (off : Nat) (v : Word)
  | read (off : Nat) (v : Word)
  | delay
  | log (tag : DiagTag)
deriving DecidableEq, Repr, Inhabited

/-- The parameters the source does not give (R4). CLOCK_SOURCE_MAP is a partial map, held as a list of pairs of a
raw code and a normalized source; `inputPorts` is the N of R99. -/
structure Params where
  windowSize       : Nat
  regBusStatus     : Nat
  regBusCs         : Nat
  regBusWbits      : Nat
  regBusRbits      : Nat
  regBusData       : Nat
  regMeasSelect    : Nat
  regMeas          : Nat
  regDco           : Nat
  regSpeedClksel   : Nat
  regSpeedMode     : Nat
  regClockSource   : Nat
  busReadyMask     : Word
  busReadyValue    : Word
  busResetValue    : Word
  clkselValue      : Word
  maxSpeedMode     : SpeedMode
  rateBreakNormal  : Nat
  rateBreakFast    : Nat
  inputPorts       : Nat
  clockSourceMap   : List (Byte × ClockSource)
  resetDcoHz       : Word
  resetClockSource : Byte
deriving DecidableEq, Repr, Inhabited

namespace Params

/-- The byte offset parameter REG_* of a device register (R4, R20). -/
def offset (p : Params) : DevReg → Nat
  | .busStatus => p.regBusStatus
  | .busCs => p.regBusCs
  | .busWbits => p.regBusWbits
  | .busRbits => p.regBusRbits
  | .busData => p.regBusData
  | .measSelect => p.regMeasSelect
  | .meas => p.regMeas
  | .dco => p.regDco
  | .speedClksel => p.regSpeedClksel
  | .speedMode => p.regSpeedMode
  | .clockSource => p.regClockSource

/-- The eleven offsets, in the order of R4. -/
def offsets (p : Params) : List Nat :=
  [p.regBusStatus, p.regBusCs, p.regBusWbits, p.regBusRbits, p.regBusData, p.regMeasSelect, p.regMeas,
   p.regDco, p.regSpeedClksel, p.regSpeedMode, p.regClockSource]

/-- The five control-bus offsets (90_conflicts.md C2). -/
def busOffsets (p : Params) : List Nat :=
  [p.regBusStatus, p.regBusCs, p.regBusWbits, p.regBusRbits, p.regBusData]

/-- R4: WINDOW_SIZE is a multiple of 4; every offset is a multiple of 4 below it (R31, R34). -/
def offsetsOk (p : Params) : Bool :=
  p.windowSize % 4 == 0 && p.offsets.all fun o => o % 4 == 0 && decide (o < p.windowSize)

/-- R37: "measurement and SPI-style transactions use disjoint register ranges". -/
def disjointOk (p : Params) : Bool :=
  p.busOffsets.all fun o => o != p.regMeasSelect && o != p.regMeas

/-- R4: `BUS_READY_VALUE & ~BUS_READY_MASK = 0`. -/
def readyOk (p : Params) : Bool :=
  p.busReadyValue &&& ~~~p.busReadyMask == 0#32

/-- R4: RATE_BREAK_NORMAL < RATE_BREAK_FAST. -/
def breaksOk (p : Params) : Bool :=
  decide (p.rateBreakNormal < p.rateBreakFast)

/-- A source is one of Internal, SyncBus, InputPort1..N (R99). -/
def sourceOk (p : Params) : ClockSource → Bool
  | .internal => true
  | .syncBus => true
  | .inputPort k => decide (1 ≤ k) && decide (k ≤ p.inputPorts)

/-- R4, R99: CLOCK_SOURCE_MAP is a partial map (no code twice) into Internal, SyncBus, InputPort1..N. -/
def clockMapOk (p : Params) : Bool :=
  decide ((p.clockSourceMap.map Prod.fst).Nodup) && p.clockSourceMap.all fun e => p.sourceOk e.2

/-- The constraints of R4, R31, R34 and R37 together. "A configuration that breaks this is ill-formed". -/
def wf (p : Params) : Bool :=
  p.offsetsOk && p.disjointOk && p.readyOk && p.breaksOk && p.clockMapOk

end Params

/-- A well-formed configuration: "A model refuses such [an ill-formed] configuration rather than giving it a
meaning" (R31). The proof travels with the data, so a State can hold no other; `Machine.boot` is the refusal.
The default only shows that the type is inhabited, which `Config.platform` needs: it is no value of the hardware, and
nothing is built on it (log 2). -/
structure Configuration where
  params : Params :=
    { windowSize := 44, regBusStatus := 0, regBusCs := 4, regBusWbits := 8, regBusRbits := 12, regBusData := 16,
      regMeasSelect := 20, regMeas := 24, regDco := 28, regSpeedClksel := 32, regSpeedMode := 36, regClockSource := 40,
      busReadyMask := 0, busReadyValue := 0, busResetValue := 0, clkselValue := 0, maxSpeedMode := .slow,
      rateBreakNormal := 0, rateBreakFast := 1, inputPorts := 0, clockSourceMap := [], resetDcoHz := 0,
      resetClockSource := 0 }
  ok     : params.wf = true := by decide
deriving DecidableEq, Repr, Inhabited

/-- FREE VALUE (log 2). The configuration the platform gives at boot (R129 step 1): some well-formed one, of which
nothing else is known. `State.reset` is built on it; every statement about a state holds for every configuration. -/
opaque Config.platform : Configuration

/-- FREE VALUE (log 3). The device's answer to a read (R2, R63, D37: "a free 32-bit draw, with no law"), for the
number of the read, the whole trace before it and the offset read: uninterpreted in all three, so that neither an
earlier answer nor another history says anything of it. -/
opaque Config.deviceAnswer : Nat → List Event → Nat → Word

/-- FREE VALUE (log 4). IOBASE, the window's base in the platform's address space: "no rule reads its value" (R32). -/
opaque Config.ioBase : Nat

end Sys2Proof
end

