-- ==== Sys2Proof/Syntax.lean ====
section
/-! DEFINITION. The command set (spec/30_encoding.md R47 to R57, spec/opcode_table.json): the packet as the port takes
it, one constructor of Instr per row of the opcode table, and the assembler's lines with the three pseudo-instructions
(R62). -/

namespace Sys2Proof

/-- A command packet: exactly three 32-bit words, issued together (R47). -/
structure Packet where
  w0 : Word
  w1 : Word
  w2 : Word
deriving DecidableEq, Repr, Inhabited

/-- The eleven commands (R49), with the operands of R50 to R57. `detune` is the signed value the 16-bit field stands
for (R53); `Instr.WellFormed` says it is one. -/
inductive Instr where
  | transfer (cs wbits : Half) (wdata : Word) (rbits : Half)
  | measure (sourceIndex : Word)
  | setDco (freqHz milliHz : Word)
  | setDetune (detune : Int)
  | setClockSource (code : Byte)
  | setSpeedMode (requested : Byte)
  | configureRate (rate : Word)
  | getDco
  | getDetune
  | getClockSource
  | getSpeedMode
deriving DecidableEq, Repr, Inhabited

/-- One line of assembler (R62): the eleven commands and the three pseudo-instructions, with the numbers as written. -/
inductive AsmLine where
  | transfer (cs wbits wdata rbits : Int)
  | measure (idx : Int)
  | setDco (hz millis : Int)
  | setDetune (cents : Int)
  | setClockSource (code : Int)
  | setSpeedMode (mult : Int)
  | configureRate (hz : Int)
  | getDco
  | getDetune
  | getClockSource
  | getSpeedMode
  | spiWrite (cs wbits wdata : Int)
  | spiRead (cs rbits : Int)
  | setFreq (hz : Int)
deriving DecidableEq, Repr, Inhabited

end Sys2Proof
end

