-- ==== Sys2Proof/WellFormed.lean ====
section
/-! DEFINITION. Which terms of the syntax stand for something: the detune operand of an instruction is a 16-bit signed
value (spec/30_encoding.md R53), and every number of an assembler line fits its field (R50 to R56), but the detune, which
R62 truncates. All other operands of Instr have the field's own width as their type. The legality of a value (detune in
-200..200 and the like) is the command's own check, not the encoding's (R53, R55, D42). -/

namespace Sys2Proof

/-- `v` is a value of a signed 16-bit field (R6 `i16`, R53). -/
def fitsI16 (v : Int) : Bool := decide (-32768 ≤ v) && decide (v ≤ 32767)

/-- `v` is a value of an unsigned field of `n` bits (R6 `u32`, `u16`, `u8`). -/
def fitsU (n : Nat) (v : Int) : Bool := decide (0 ≤ v) && decide (v < 2 ^ n)

/-- An instruction has an encoding (R50 to R57). -/
def Instr.WellFormed : Instr → Bool
  | .transfer _ _ _ _ => true
  | .measure _ => true
  | .setDco _ _ => true
  | .setDetune detune => fitsI16 detune
  | .setClockSource _ => true
  | .setSpeedMode _ => true
  | .configureRate _ => true
  | .getDco => true
  | .getDetune => true
  | .getClockSource => true
  | .getSpeedMode => true

/-- Every number of an assembler line fits the field it is written to (R50 to R56, R62). SET_DETUNE takes every number: its
field is written `trunc_16(cents)` (R62), which R6 defines for all of them. -/
def AsmLine.WellFormed : AsmLine → Bool
  | .transfer cs wbits wdata rbits => fitsU 16 cs && fitsU 16 wbits && fitsU 32 wdata && fitsU 16 rbits
  | .measure idx => fitsU 32 idx
  | .setDco hz millis => fitsU 32 hz && fitsU 32 millis
  | .setDetune _ => true
  | .setClockSource code => fitsU 8 code
  | .setSpeedMode mult => fitsU 8 mult
  | .configureRate hz => fitsU 32 hz
  | .getDco => true
  | .getDetune => true
  | .getClockSource => true
  | .getSpeedMode => true
  | .spiWrite cs wbits wdata => fitsU 16 cs && fitsU 16 wbits && fitsU 32 wdata
  | .spiRead cs rbits => fitsU 16 cs && fitsU 16 rbits
  | .setFreq hz => fitsU 32 hz

end Sys2Proof
end

