-- ==== Sys2Proof/Decode.lean ====
section
/-! DEFINITION. Decoding a command packet (spec/30_encoding.md R47 to R58), encoding an instruction (the assembler's
words, R62), the table word of the host's opcode table, and the assembler's text (R62). -/

namespace Sys2Proof

/-! ### The fields of a packet -/

/-- OPC = W0[3:0] (R48). -/
def Packet.opc (p : Packet) : BitVec 4 := p.w0.extractLsb' 0 4

/-- `cs = W0[31:16]` (R48, R50). -/
def Packet.cs (p : Packet) : Half := p.w0.extractLsb' 16 16

/-- `wbits = W1[15:0]` (R50). -/
def Packet.wbits (p : Packet) : Half := p.w1.extractLsb' 0 16

/-- `rbits = W1[31:16]` (R50). -/
def Packet.rbits (p : Packet) : Half := p.w1.extractLsb' 16 16

/-- `detune = sext_16(W1[15:0])` (R53). -/
def Packet.detune (p : Packet) : Int := (p.w1.extractLsb' 0 16).toInt

/-- `W1[7:0]`: the clock-source code of R54, the requested speed code of R55. -/
def Packet.code (p : Packet) : Byte := p.w1.extractLsb' 0 8

/-! ### Decoding -/

/-- Why a packet stands for no command: "OPC values 0x0 and 0xC to 0xF are reserved" (R58). -/
inductive DecodeError where
  | reservedOpcode (opc : BitVec 4)
deriving DecidableEq, Repr

/-- R48, R49: "Decoding reads OPC and then only the fields the opcode's rule names". Total on all 2^96 packets. -/
def decode (p : Packet) : Except DecodeError Instr :=
  match p.opc.toNat with
  | 0x1 => .ok (.transfer p.cs p.wbits p.w2 p.rbits)
  | 0x2 => .ok (.measure p.w1)
  | 0x3 => .ok (.setDco p.w1 p.w2)
  | 0x4 => .ok (.setDetune p.detune)
  | 0x5 => .ok (.setClockSource p.code)
  | 0x6 => .ok (.setSpeedMode p.code)
  | 0x7 => .ok (.configureRate p.w1)
  | 0x8 => .ok .getDco
  | 0x9 => .ok .getDetune
  | 0xA => .ok .getClockSource
  | 0xB => .ok .getSpeedMode
  | _ => .error (.reservedOpcode p.opc)

/-! ### Encoding -/

/-- The opcode of a command (R49). -/
def opcodeOf : Instr → BitVec 4
  | .transfer _ _ _ _ => 0x1
  | .measure _ => 0x2
  | .setDco _ _ => 0x3
  | .setDetune _ => 0x4
  | .setClockSource _ => 0x5
  | .setSpeedMode _ => 0x6
  | .configureRate _ => 0x7
  | .getDco => 0x8
  | .getDetune => 0x9
  | .getClockSource => 0xA
  | .getSpeedMode => 0xB

/-- W0: `(cs << 16) | OPC`, W0[15:4] written as 0 (R62). -/
def header (cs : Half) (opc : BitVec 4) : Word := cs ++ (0#12 ++ opc)

/-- The packet of an instruction, "every ignored bit as 0" (R62, its table). -/
def encode (i : Instr) : Packet :=
  match i with
  | .transfer cs wbits wdata rbits => ⟨header cs (opcodeOf i), rbits ++ wbits, wdata⟩
  | .measure sourceIndex => ⟨header 0 (opcodeOf i), sourceIndex, 0⟩
  | .setDco freqHz milliHz => ⟨header 0 (opcodeOf i), freqHz, milliHz⟩
  | .setDetune detune => ⟨header 0 (opcodeOf i), 0#16 ++ BitVec.ofInt 16 detune, 0⟩
  | .setClockSource code => ⟨header 0 (opcodeOf i), 0#24 ++ code, 0⟩
  | .setSpeedMode requested => ⟨header 0 (opcodeOf i), 0#24 ++ requested, 0⟩
  | .configureRate rate => ⟨header 0 (opcodeOf i), rate, 0⟩
  | .getDco => ⟨header 0 (opcodeOf i), 0, 0⟩
  | .getDetune => ⟨header 0 (opcodeOf i), 0, 0⟩
  | .getClockSource => ⟨header 0 (opcodeOf i), 0, 0⟩
  | .getSpeedMode => ⟨header 0 (opcodeOf i), 0, 0⟩

/-! ### The table's numbering of an instruction's bits -/

/-- The packet whose bits are the low `nbits` bits of `w`, bit 0 the least significant of W0, W1 and W2 counting on;
every bit above is 0. The port takes whole words, so no byte order enters (R35, log 4). -/
def packetOfBits (nbits w : Nat) : Packet :=
  let v := w % 2 ^ nbits
  ⟨BitVec.ofNat 32 v, BitVec.ofNat 32 (v / 2 ^ 32), BitVec.ofNat 32 (v / 2 ^ 64)⟩

/-- The instruction the decoder reads from an opcode-table word; none where it refuses. -/
def decodeTableWord (nbits w : Nat) : Option Instr :=
  match decode (packetOfBits nbits w) with
  | .ok i => some i
  | .error _ => none

/-! ### The assembler (R62) -/

/-- The three pseudo-instructions, each one command (R62); every other line is its own expansion. -/
def AsmLine.expand : AsmLine → AsmLine
  | .spiWrite cs wbits wdata => .transfer cs wbits wdata 0
  | .spiRead cs rbits => .transfer cs 0 0 rbits
  | .setFreq hz => .setDco hz 0
  | l => l

/-- The detune that the field `trunc_16(cents)` stands for (R53, R62): `sext_16`, the number itself within -32768..32767. -/
def wrapI16 (cents : Int) : Int := (BitVec.ofInt 16 cents).toInt

/-- The command of a line (R62): the pseudo-instructions read as their expansions. -/
def AsmLine.toInstr : AsmLine → Instr
  | .transfer cs wbits wdata rbits =>
      .transfer (BitVec.ofInt 16 cs) (BitVec.ofInt 16 wbits) (BitVec.ofInt 32 wdata) (BitVec.ofInt 16 rbits)
  | .measure idx => .measure (BitVec.ofInt 32 idx)
  | .setDco hz millis => .setDco (BitVec.ofInt 32 hz) (BitVec.ofInt 32 millis)
  | .setDetune cents => .setDetune (wrapI16 cents)
  | .setClockSource code => .setClockSource (BitVec.ofInt 8 code)
  | .setSpeedMode mult => .setSpeedMode (BitVec.ofInt 8 mult)
  | .configureRate hz => .configureRate (BitVec.ofInt 32 hz)
  | .getDco => .getDco
  | .getDetune => .getDetune
  | .getClockSource => .getClockSource
  | .getSpeedMode => .getSpeedMode
  | .spiWrite cs wbits wdata =>
      .transfer (BitVec.ofInt 16 cs) (BitVec.ofInt 16 wbits) (BitVec.ofInt 32 wdata) 0
  | .spiRead cs rbits => .transfer (BitVec.ofInt 16 cs) 0 0 (BitVec.ofInt 16 rbits)
  | .setFreq hz => .setDco (BitVec.ofInt 32 hz) 0

/-- The packet of a line (R62). An operand that R62's table writes without a truncation and that does not fit its field has
no packet (DESIGN CHOICE, log 15); SET_DETUNE's, which it truncates, always has one. -/
def assemble (l : AsmLine) : Option Packet :=
  if l.WellFormed then some (encode l.toInstr) else none

namespace Asm

/-- Spaces at either end of a piece of a line are no part of it (log 15). -/
def trim (cs : List Char) : List Char :=
  ((cs.dropWhile (· == ' ')).reverse.dropWhile (· == ' ')).reverse

/-- The pieces between commas: "operands separated by commas" (R62). -/
def pieces : List Char → List (List Char)
  | [] => [[]]
  | c :: cs =>
    if c == ',' then [] :: pieces cs
    else match pieces cs with
      | [] => [[c]]
      | p :: ps => (c :: p) :: ps

/-- The value of a digit, decimal or hex (R62). -/
def digit (c : Char) : Option Nat :=
  if '0' ≤ c ∧ c ≤ '9' then some (c.toNat - '0'.toNat)
  else if 'a' ≤ c ∧ c ≤ 'f' then some (c.toNat - 'a'.toNat + 10)
  else if 'A' ≤ c ∧ c ≤ 'F' then some (c.toNat - 'A'.toNat + 10)
  else none

/-- Digits of a base, most significant first, after the value `acc` of those before; at least one where `started`. -/
def digits (base : Nat) : Bool → Nat → List Char → Option Nat
  | started, acc, [] => if started then some acc else none
  | _, acc, c :: cs =>
    match digit c with
    | some d => if d < base then digits base true (acc * base + d) cs else none
    | none => none

/-- "Numbers are written in decimal, or in hex with `0x`" (R62). -/
def natural : List Char → Option Nat
  | '0' :: 'x' :: cs => digits 16 false 0 cs
  | cs => digits 10 false 0 cs

/-- "a negative detune is written with `-`" (R62). -/
def number : List Char → Option Int
  | '-' :: cs => (natural cs).map fun n => -(n : Int)
  | cs => (natural cs).map fun n => (n : Int)

/-- The numbers of an operand list; none where a piece is no number. -/
def numbers : List (List Char) → Option (List Int)
  | [] => some []
  | p :: ps =>
    match number (trim p), numbers ps with
    | some n, some ns => some (n :: ns)
    | _, _ => none

/-- The line of a mnemonic and its operands (R62, its table and its list of pseudo-instructions). -/
def line (mnemonic : List Char) (operands : List Int) : Option AsmLine :=
  match operands with
  | [] =>
    if mnemonic = "GET_DCO".toList then some .getDco
    else if mnemonic = "GET_DETUNE".toList then some .getDetune
    else if mnemonic = "GET_CLOCK_SOURCE".toList then some .getClockSource
    else if mnemonic = "GET_SPEED_MODE".toList then some .getSpeedMode
    else none
  | [a] =>
    if mnemonic = "MEASURE".toList then some (.measure a)
    else if mnemonic = "SET_DETUNE".toList then some (.setDetune a)
    else if mnemonic = "SET_CLOCK_SOURCE".toList then some (.setClockSource a)
    else if mnemonic = "SET_SPEED_MODE".toList then some (.setSpeedMode a)
    else if mnemonic = "CONFIGURE_RATE".toList then some (.configureRate a)
    else if mnemonic = "SET_FREQ".toList then some (.setFreq a)
    else none
  | [a, b] =>
    if mnemonic = "SET_DCO".toList then some (.setDco a b)
    else if mnemonic = "SPI_READ".toList then some (.spiRead a b)
    else none
  | [a, b, c] =>
    if mnemonic = "SPI_WRITE".toList then some (.spiWrite a b c) else none
  | [a, b, c, d] =>
    if mnemonic = "TRANSFER".toList then some (.transfer a b c d) else none
  | _ => none

/-- A line of text: "the mnemonic, then operands separated by commas" (R62). -/
def parse (text : List Char) : Option AsmLine :=
  let t := trim text
  let mnemonic := t.takeWhile (· != ' ')
  let rest := trim (t.dropWhile (· != ' '))
  match (if rest = [] then some [] else numbers (pieces rest)) with
  | some ns => line mnemonic ns
  | none => none

/-- The packet of a line of text (R62). -/
def packet (text : String) : Option Packet :=
  match parse text.toList with
  | some l => assemble l
  | none => none

end Asm

end Sys2Proof
end

