-- ==== Sys2Proof/Machine/State.lean ====
section
/-! DEFINITION. The engine's state as plain data (spec/10_state.md): the five stored fields, the handshake flags, the
response words, the sequencer's hidden state, the trace, the configuration, and the inputs of the environment. The
state after reset (R29). The reasons a step can stop. -/

namespace Sys2Proof.Machine

/-- The one fault. The engine "never stops or hangs on an error" (R109): every error is a status in a response. -/
inductive Fault where
  /-- Raised by `step` at a state whose `busy` is 1 while its hidden sequencer state describes no command in progress:
  93_implementation_defined.md I8, "a read of one before a write would be a fault, and no rule makes one". Safe
  (log 8): the model stops where the spec gives no meaning; no run from reset gets there. -/
  | sequencerUnwritten
deriving DecidableEq, Repr

/-- Why the model gives no meaning. -/
inductive Refusal where
  /-- Raised by `exec` for an instruction whose meaning is not written: no arm of this model answers it. Safe. -/
  | notModelled (mnemonic : String)
  /-- Raised by `boot` for a configuration that breaks a constraint of R4: "A model refuses such a configuration rather
  than giving it a meaning" (R31). Safe. -/
  | illFormedConfiguration
deriving DecidableEq, Repr

/-- The status codes of a response (R60), by name. Codes 7 to 15 are "never produced" and have no name. -/
inductive Status where
  | ok
  | timeout
  | noop
  | rateTooHigh
  | invalidState
  | invalidArgument
  | illegalCommand
deriving DecidableEq, Repr, Inhabited

/-- The five stored fields, `S.f` (R9). -/
structure Stored where
  /-- Slow, Normal or Fast: multiplier 1, 2 or 4 (R10). -/
  speedMode   : SpeedMode
  /-- Last committed frequency in Hz (R11). -/
  dco         : Word
  /-- Last committed millihertz, legal 0..999 (R9, R11). -/
  dcoMillis   : Word
  /-- Signed cents, an i16, legal -200..200 (R9, R12). -/
  detune      : Half
  /-- Raw clock-source code (R13). -/
  clockSource : Byte
deriving DecidableEq, Repr, Inhabited

/-- Where the sequencer stands: R17's `step`, "the position of the next micro-operation within the command's
pseudocode". `entry` comes before the first one, where the operands are checked (R114); the letter in front of the
others names the command: t TRANSFER (R72), m MEASURE (R81), d SET_DCO (R93), e SET_DETUNE (R94), c SET_CLOCK_SOURCE
(R95), s SET_SPEED_MODE (R102, R103), r CONFIGURE_RATE (R106). -/
inductive Pos where
  | idle
  | entry
  | tPrepollRead
  | tPrepollDelay
  | tReset
  | tLog
  | tCs
  | tWbits
  | tRbits
  | tData
  | tPollRead
  | tPollDelay
  | tReadData
  | tRespondData
  | tRespondNoRead
  | tRaiseTimeout
  | mSelect
  | mRead
  | mDelay
  | mRespondHz
  | mRespondNoLock
  | dWrite
  | dRespond
  | eWrite
  | eRespond
  | cWrite
  | cRespond
  | sClksel
  | sMode
  | sDco
  | sRespond
  | rClksel
  | rMode
  | rDcoOld
  | rDcoNew
  | rRespond
deriving DecidableEq, Repr, Inhabited

/-- The sequencer's hidden state (R17). -/
structure Hidden where
  /-- The accepted packet, "held until the response is published". -/
  cmd            : Packet
  /-- R17's `step`. -/
  seq            : Pos
  /-- Reads the current poll has made. -/
  tries          : Nat
  /-- The last value returned by a RegRead. -/
  latch          : Word
  /-- 1 if the current TRANSFER's pre-poll timed out. -/
  prepollTimeout : Bool
  /-- The divider word computed and not yet written. -/
  pendingDco     : Word
deriving DecidableEq, Repr, Inhabited

/-- The three response words (R18, R59). -/
structure Response where
  rsp0 : Word
  rsp1 : Word
  rsp2 : Word
deriving DecidableEq, Repr, Inhabited

/-- The whole state. `cfg` never changes. `answers`, `draws`, `offers` and `resetIn` are the model's own fields: what
the device, the host and the platform will do, held as plain data (log 3, 5, 7). -/
structure State where
  /-- The parameters of R4, well-formed (R31). -/
  cfg     : Configuration
  /-- The stored fields (R9). -/
  S       : Stored
  /-- 1 from a command's acceptance to its response (R16). -/
  busy    : Bool
  /-- 1 from the first response to reset (R16). -/
  done    : Bool
  /-- The response words (R18). -/
  rsp     : Response
  /-- The sequencer's hidden state (R17). -/
  hid     : Hidden
  /-- The events so far, oldest first (R8). -/
  trace   : List Event
  /-- The device's next answers, where they are given; when none is left an answer is a free value (log 3). -/
  answers : List Word
  /-- Reads made so far: what makes each free answer fresh (log 3). -/
  draws   : Nat
  /-- The packets the host will issue, in its order (R45). -/
  offers  : List Packet
  /-- After how many more sequencer transitions the platform's reset arrives, if it does (R126, R128). -/
  resetIn : Option Nat
deriving DecidableEq, Repr

/-- The stored fields at reset (R29). -/
def Stored.atReset (c : Configuration) : Stored :=
  { speedMode := .slow, dco := c.params.resetDcoHz, dcoMillis := 0, detune := 0,
    clockSource := c.params.resetClockSource }

/-- The hidden state at reset: "unspecified; never read before written" (R29). The values are the model's (log 6). -/
def Hidden.atReset : Hidden :=
  { cmd := ⟨0, 0, 0⟩, seq := .idle, tries := 0, latch := 0, prepollTimeout := false, pendingDco := 0 }

/-- The response words at reset (R18, R29). -/
def Response.atReset : Response := ⟨0, 0, 0⟩

/-- The machine right after reset under a configuration (R29, R126): idle, nothing recorded, nothing offered. -/
def State.resetWith (c : Configuration) : State :=
  { cfg := c, S := Stored.atReset c, busy := false, done := false, rsp := Response.atReset, hid := Hidden.atReset,
    trace := [], answers := [], draws := 0, offers := [], resetIn := none }

/-- The machine right after reset under the platform's configuration, of which only its well-formedness is known. -/
def State.reset : State := State.resetWith Config.platform

end Sys2Proof.Machine
end

