-- ==== Sys2Proof/Machine/Parameters.lean ====
section
/-! DEFINITION. The values the source fixes (spec/00_scope.md R3), "used exactly as printed"
(93_implementation_defined.md I1, log 14). -/

namespace Sys2Proof.Machine

/-- BUS_POLL_TRIES. -/
def busPollTries : Nat := 10

/-- BUS_MAX_BITS. -/
def busMaxBits : Nat := 32

/-- MEAS_SELECT_MASK. -/
def measSelectMask : Word := 0x7

/-- MEAS_POLL_TRIES. -/
def measPollTries : Nat := 5

/-- MEAS_READY_BIT. -/
def measReadyBit : Nat := 31

/-- MEAS_PERIOD_BITS: bits 17:0. -/
def measPeriodBits : Nat := 18

/-- MEAS_NUMERATOR. -/
def measNumerator : Nat := 1280000000

/-- MEAS_ROUND_STEP: 10 times the speed mode's multiplier. -/
def measRoundStep : Nat := 10

/-- DCO_MILLI. -/
def dcoMilli : Nat := 1000

/-- DCO_SHIFT. -/
def dcoShift : Nat := 36

/-- DETUNE_UNIT. -/
def detuneUnit : Int := 100

/-- DETUNE_DIVISOR. -/
def detuneDivisor : Int := 138564

/-- DCO_DIV1. -/
def dcoDiv1 : Int := 80000000

/-- DCO_DIV2. -/
def dcoDiv2 : Int := 1000

/-- DETUNE_MIN. -/
def detuneMin : Int := -200

/-- DETUNE_MAX. -/
def detuneMax : Int := 200

/-- MILLIS_MAX. -/
def millisMax : Nat := 999

/-- BUS_POLL_DELAY_MS and MEAS_POLL_DELAY_MS: what every `D` event stands for, at least (R65). -/
def pollDelayMs : Nat := 1

/-- The mode-register values: Slow 0, Normal 1, Fast 0 (R24, R101: "asymmetric encoding, a hardware quirk, not a
typo"). -/
def modeReg : SpeedMode → Word
  | .slow => 0x00000000
  | .normal => 0x00000001
  | .fast => 0x00000000

end Sys2Proof.Machine

namespace Sys2Proof

/-- The speed multipliers: Slow = 1, Normal = 2, Fast = 4 (R3, R10). -/
def SpeedMode.multiplier : SpeedMode → Nat
  | .slow => 1
  | .normal => 2
  | .fast => 4

/-- "The order Slow < Normal < Fast is the numeric order 1 < 2 < 4. That order decides 'exceeds the variant's declared
maximum'" (R10). -/
def SpeedMode.exceeds (m max : SpeedMode) : Bool := decide (max.multiplier < m.multiplier)

end Sys2Proof
end

