-- ==== Sys2Proof/Machine/Operands.lean ====
section
/-! DEFINITION. Operand forms: how a narrow operand becomes a register word, how a payload is packed into and unpacked
from REG_BUS_DATA (spec/41_control_bus.md R75, R77), which speed code names which mode (R55, R103), the rate map (R105),
the clock-source map (R98, R99). -/

namespace Sys2Proof.Machine

/-- `zext_32` of a 16-bit value (R6, R26, R74). -/
def zext16 (v : Half) : Word := v.setWidth 32

/-- `zext_32` of an 8-bit value (R6, R25, R95). -/
def zext8 (v : Byte) : Word := v.setWidth 32

/-- `trunc_32(S.detune)`: the signed value as a two's-complement word (R59, R97). -/
def detuneWord (d : Half) : Word := BitVec.ofInt 32 d.toInt

/-- Write packing (R75): the first `n` bits of the payload in the low `n` bits, `trunc_32(wdata / 2^(32-n))`;
0 for n = 0. The engine applies it for n at most 32. -/
def pack (wdata : Word) (n : Nat) : Word :=
  if n = 0 then 0 else BitVec.ofNat 32 (wdata.toNat / 2 ^ (busMaxBits - n))

/-- Read unpacking (R77): `trunc_32(d << (32 - n))`, for n in 1..32. -/
def unpack (d : Word) (n : Nat) : Word := BitVec.ofNat 32 (d.toNat * 2 ^ (busMaxBits - n))

/-- COUNT = ceil(n / 8) (R59, R77). -/
def byteCount (n : Nat) : Nat := (n + 7) / 8

/-- "1 ≤ rbits and rbits ≤ 32", the guard of the read half (R72, R76). -/
def readsData (rbits : Half) : Bool := decide (1 ≤ rbits.toNat) && decide (rbits.toNat ≤ busMaxBits)

/-- "wbits ≤ 32", the guard of the data write (R72, R75). -/
def writesData (wbits : Half) : Bool := decide (wbits.toNat ≤ busMaxBits)

/-- Byte k of a payload word, `W[31-8k : 24-8k]`, most significant first (R35, R50, R59). -/
def payloadByte (w : Word) (k : Nat) : Byte := w.extractLsb' (24 - 8 * k) 8

/-- `trunc_32(sourceIndex) & 0x7` (R22, R82). -/
def selectWord (sourceIndex : Word) : Word := sourceIndex &&& measSelectMask

/-- `detune < -200 or detune > 200` is what is refused (R94). -/
def detuneLegal (d : Int) : Bool := decide (detuneMin ≤ d) && decide (d ≤ detuneMax)

/-- `milliHz > 999` is what is refused (R93). -/
def millisLegal (m : Word) : Bool := decide (m.toNat ≤ millisMax)

/-- The mode a speed code requests: 1, 2, 4; any other code requests none (R55, R103). -/
def modeOfCode (code : Byte) : Option SpeedMode :=
  if code = 1 then some .slow
  else if code = 2 then some .normal
  else if code = 4 then some .fast
  else none

/-- RateMode (R105), total over u32. -/
def rateMode (p : Params) (rate : Word) : SpeedMode :=
  if rate.toNat < p.rateBreakNormal then .slow
  else if rate.toNat < p.rateBreakFast then .normal
  else .fast

/-- The look-up of a raw code in a list of pairs. -/
def lookupSource (code : Byte) : List (Byte × ClockSource) → Option ClockSource
  | [] => none
  | (c, src) :: rest => if c = code then some src else lookupSource code rest

/-- CLOCK_SOURCE_MAP (R4, R98): the partial map from a raw code to its normalized source. -/
def clockSourceMap (p : Params) (code : Byte) : Option ClockSource := lookupSource code p.clockSourceMap

/-- Norm (R99): Internal 0, SyncBus 1, InputPort k 1 + k. -/
def normalizedCode : ClockSource → Nat
  | .internal => 0
  | .syncBus => 1
  | .inputPort k => 1 + k

end Sys2Proof.Machine
end

