-- ==== Sys2Proof/Machine/Flags.lean ====
section
/-! DEFINITION. Every flag the rules name (spec/10_state.md R19): the two readiness tests on a read word (R68, R69), and
the first response word with its status, its PREPOLL_TIMEOUT bit and its byte count (R59, R60, R61). The engine has no
other condition codes. -/

namespace Sys2Proof.Machine

/-- `busReady(v) = ((v & BUS_READY_MASK) = BUS_READY_VALUE)` (R68). -/
def busReady (p : Params) (v : Word) : Bool := v &&& p.busReadyMask == p.busReadyValue

/-- `measReady(v) = (v[31] = 1)` (R69). -/
def measReady (v : Word) : Bool := v.getLsbD measReadyBit

/-- PERIOD = REG_MEAS[17:0] (R21, R84). -/
def measPeriod (v : Word) : Nat := v.toNat % 2 ^ measPeriodBits

/-- The status codes (R60). -/
def Status.code : Status → Nat
  | .ok => 0
  | .timeout => 1
  | .noop => 2
  | .rateTooHigh => 3
  | .invalidState => 4
  | .invalidArgument => 5
  | .illegalCommand => 6

/-- `RSP0 <- zext_32(status) | (prepollTimeout << 8) | (count << 16)` (R61). -/
def rsp0Word (status : Status) (prepoll : Bool) (count : Nat) : Word :=
  BitVec.ofNat 32 status.code ||| ((if prepoll then 1#32 else 0#32) <<< 8) ||| (BitVec.ofNat 32 count <<< 16)

/-- STATUS = RSP0[3:0] (R59). -/
def Response.status (r : Response) : BitVec 4 := r.rsp0.extractLsb' 0 4

/-- PREPOLL_TIMEOUT = RSP0[8] (R59). -/
def Response.prepollTimeout (r : Response) : Bool := r.rsp0.getLsbD 8

/-- COUNT = RSP0[18:16] (R59). -/
def Response.count (r : Response) : BitVec 3 := r.rsp0.extractLsb' 16 3

/-- The read bytes the host may copy, the first COUNT of RSP1, most significant first (R46 (d), R59). -/
def Response.readBytes (r : Response) : List Byte :=
  (List.range r.count.toNat).map (payloadByte r.rsp1)

/-- The bits of RSP0 that are always 0: 7:4, 15:9, 31:19 (R59, 93_implementation_defined.md I12). -/
def rsp0ZeroBits : Word := 0xFFF8FEF0

end Sys2Proof.Machine
end

