-- ==== Sys2Proof/Machine/Ops.lean ====
section
/-! DEFINITION. The named operations of the engine: the register-port micro-operations (spec/40_register_port.md R63 to
R67), the writes of the stored fields (R9 to R13), the acceptance of a packet (R45, R61), the response and the raise
(R61, R110), the reset (R126 to R128), and what a host reads (R45). Error entry and the return from it are ONE operation,
`raise`: "the engine saves nothing and changes no mode or mask" and becomes idle (R116), and "There is no
return-from-trap command" (R117). -/

namespace Sys2Proof.Machine

namespace State

/-- Append one event to the trace (R8). -/
def record (e : Event) (s : State) : State := { s with trace := s.trace ++ [e] }

/-- The sequencer's next position (R17 `step`). -/
def goto (p : Pos) (s : State) : State := { s with hid := { s.hid with seq := p } }

/-- `tries <- n` (R67). -/
def setTries (n : Nat) (s : State) : State := { s with hid := { s.hid with tries := n } }

/-- `prepollTimeout <- 1` (R73). -/
def flagPrepollTimeout (s : State) : State := { s with hid := { s.hid with prepollTimeout := true } }

/-- The divider word computed and not yet written (R17). -/
def setPendingDco (w : Word) (s : State) : State := { s with hid := { s.hid with pendingDco := w } }

/-- `S.dco <- f; S.dcoMillis <- m`, "unconditionally" (R11, R92). -/
def commitDco (f m : Word) (s : State) : State := { s with S := { s.S with dco := f, dcoMillis := m } }

/-- `S.detune <- d` (R12, R94, R106). -/
def commitDetune (d : Half) (s : State) : State := { s with S := { s.S with detune := d } }

/-- `S.clockSource <- code` (R13, R95). -/
def commitClockSource (code : Byte) (s : State) : State := { s with S := { s.S with clockSource := code } }

/-- `S.speedMode <- R` (R102). -/
def commitSpeedMode (m : SpeedMode) (s : State) : State := { s with S := { s.S with speedMode := m } }

end State

/-! ### The register port -/

/-- The device's answer to the next read at an offset: the next word of the script if one is given, else a free value
(R2, R63, log 3). -/
def deviceAnswer (off : Nat) (s : State) : Word :=
  match s.answers with
  | v :: _ => v
  | [] => Config.deviceAnswer s.draws s.trace off

/-- One 32-bit read at a byte offset (R63): the answer is latched and recorded. -/
def portRead (off : Nat) (s : State) : Word × State :=
  let v := deviceAnswer off s
  (v, { s with
        hid := { s.hid with latch := v }
        trace := s.trace ++ [.read off v]
        answers := s.answers.tail
        draws := s.draws + 1 })

/-- One 32-bit write at a byte offset (R64): "every 32-bit value is written as given". -/
def portWrite (off : Nat) (v : Word) (s : State) : State := s.record (.write off v)

/-- `RegRead(off)` at one of the eleven registers (R31, R63). -/
def regRead (r : DevReg) (s : State) : Word × State := portRead (s.cfg.params.offset r) s

/-- `RegWrite(off, v)` at one of the eleven registers (R31, R64). -/
def regWrite (r : DevReg) (v : Word) (s : State) : State := portWrite (s.cfg.params.offset r) v s

/-- `MemRead(addr, n)`: "`MemRead(IOBASE + off, 4)` and `RegRead(off)` are one operation"; "No other size n exists"
(R32). -/
def memRead (addr n : Nat) (s : State) : Option (Word × State) :=
  if n = 4 ∧ Config.ioBase ≤ addr then some (portRead (addr - Config.ioBase) s) else none

/-- `MemWrite(addr, n, v)` (R32). -/
def memWrite (addr n : Nat) (v : Word) (s : State) : Option State :=
  if n = 4 ∧ Config.ioBase ≤ addr then some (portWrite (addr - Config.ioBase) v s) else none

/-- `Delay(1)` (R65): an event, no time (log 9). -/
def delay (s : State) : State := s.record .delay

/-- `Diag(tag)` (R66). -/
def diag (tag : DiagTag) (s : State) : State := s.record (.log tag)

/-- The result of a poll (R67): "Timeout is a result, not a fault". -/
inductive PollResult where
  | ready (v : Word)
  | timeout
deriving DecidableEq, Repr

/-- One read of a poll, counted (R67: `v <- RegRead(off)`, `tries <- tries + 1`). -/
def pollRead (r : DevReg) (s : State) : Word × State :=
  let (v, s1) := regRead r s
  (v, s1.setTries (s1.hid.tries + 1))

/-- The loop of R67 with `n` tries left. -/
def pollLoop (r : DevReg) (test : Word → Bool) : Nat → State → PollResult × State
  | 0, s => (.timeout, s)
  | n + 1, s =>
    let (v, s1) := pollRead r s
    if test v then (.ready v, s1) else pollLoop r test n (delay s1)

/-- `PollReady(off, test, T)` (R67): at most T reads, a delay after every failed one, none before the first. -/
def pollReady (r : DevReg) (test : Word → Bool) (T : Nat) (s : State) : PollResult × State :=
  pollLoop r test T (s.setTries 0)

/-! ### The command port -/

/-- Acceptance of a packet (R45): it is latched into `cmd`, `busy <- 1`, and the command begins; "The sequencer sets
`prepollTimeout <- 0` when it accepts each command" (R61). -/
def accept (p : Packet) (s : State) : State :=
  { s with busy := true, hid := { s.hid with cmd := p, seq := .entry, prepollTimeout := false } }

/-- `Issue(W0, W1, W2)` (R45): accepted only when `busy = 0`; while `busy = 1` "The host's issue has no step". -/
def issue (p : Packet) (s : State) : Option State :=
  if s.busy then none else some (accept p s)

/-- `respond(status, r1, r2, count)` (R61): the response words, then `done <- 1`, then `busy <- 0`, as one step (R45).
No micro-operation follows it. -/
def respond (status : Status) (r1 r2 : Word) (count : Nat) (s : State) : State :=
  { s with
    rsp := ⟨rsp0Word status s.hid.prepollTimeout count, r1, r2⟩
    done := true
    busy := false
    hid := { s.hid with seq := .idle } }

/-- `raise E()`: `respond(E, 0, 0, 0)`; events already recorded stand, no stored field changes, PREPOLL_TIMEOUT keeps
its value (R110, R116). -/
def raise (e : Status) (s : State) : State := respond e 0 0 0 s

/-- What the host reads at any time, without side effect (R45). -/
structure HostView where
  busy : Bool
  done : Bool
  rsp  : Response
deriving DecidableEq, Repr

/-- Reading `busy`, `done` and RSP0 to RSP2 (R16, R45). -/
def hostView (s : State) : HostView := ⟨s.busy, s.done, s.rsp⟩

/-- The response words describe the latest command "only while `busy = 0` and `done = 1`" (R45, R131). -/
def responseValid (s : State) : Bool := !s.busy && s.done

/-! ### Reset and boot -/

/-- The platform's reset (R126, R128): every piece of engine state at its reset value, as one step, with no downstream
access (R127). What was recorded stands, and what the environment will do is not the engine's (log 10). -/
def applyReset (s : State) : State :=
  { State.resetWith s.cfg with trace := s.trace, answers := s.answers, draws := s.draws, offers := s.offers }

/-- Boot step 1 (R129): the platform gives a configuration. An ill-formed one is refused (R31, D40). -/
def boot (p : Params) : Host.Outcome State Fault Refusal :=
  if h : p.wf = true then .next (State.resetWith ⟨p, h⟩) else .refused .illFormedConfiguration

/-! ### Reading a trace -/

/-- The last word written to an offset, if any was. -/
def lastWrite (off : Nat) : List Event → Option Word
  | [] => none
  | e :: es =>
    match lastWrite off es with
    | some v => some v
    | none =>
      match e with
      | .write o v => if o = off then some v else none
      | _ => none

/-- The least time a trace's delays take, in milliseconds (R65, R140): "at least 1 ms" for each `D`. -/
def leastDelayMs (t : List Event) : Nat := t.count .delay * pollDelayMs

end Sys2Proof.Machine
end

