-- ==== Sys2Proof/Machine/ControlBus.lean ====
section
/-! DEFINITION. The control-bus transaction sequencer (spec/41_control_bus.md): TRANSFER. -/

namespace Sys2Proof.Machine

/-- Steps 1 and 2 (R73): pre-poll; on a timeout the reset sentinel is written, the timeout logged and flagged, and the
command goes on. -/
def transferPrepoll (s : State) : State :=
  match pollReady .busStatus (busReady s.cfg.params) busPollTries s with
  | (.ready _, s1) => s1
  | (.timeout, s1) =>
    (diag .prepollTimeout (regWrite .busStatus s.cfg.params.busResetValue s1)).flagPrepollTimeout

/-- Step 3 (R74): chip-select and both counts, in this order, as given. -/
def transferSetup (cs wbits rbits : Half) (s : State) : State :=
  regWrite .busRbits (zext16 rbits) (regWrite .busWbits (zext16 wbits) (regWrite .busCs (zext16 cs) s))

/-- Step 4 (R75): the packed payload, where `wbits ≤ 32`; nothing above. -/
def transferWriteData (wbits : Half) (wdata : Word) (s : State) : State :=
  if writesData wbits then regWrite .busData (pack wdata wbits.toNat) s else s

/-- Step 5 (R76, R77): read poll, one data read, unpacking; TIMEOUT where the poll fails; nothing read where `rbits` is 0
or above 32. -/
def transferRead (rbits : Half) (s : State) : State :=
  if readsData rbits then
    match pollReady .busStatus (busReady s.cfg.params) busPollTries s with
    | (.timeout, s1) => raise .timeout s1
    | (.ready _, s1) =>
      let (d, s2) := regRead .busData s1
      respond .ok (unpack d rbits.toNat) 0 (byteCount rbits.toNat) s2
  else respond .ok 0 0 0 s

/-- TRANSFER (R72). -/
def execTransfer (cs wbits : Half) (wdata : Word) (rbits : Half) (s : State) :
    Host.Outcome State Fault Refusal :=
  .next (transferRead rbits (transferWriteData wbits wdata (transferSetup cs wbits rbits (transferPrepoll s))))

end Sys2Proof.Machine
end

