-- ==== Sys2Proof/Machine/FrequencyCounter.lean ====
section
/-! DEFINITION. The frequency-counter poll controller (spec/42_frequency_counter.md): MEASURE. -/

namespace Sys2Proof.Machine

/-- `rawHz = 1280000000 / (p + 1)` by floor division (R84). -/
def rawHz (p : Nat) : Nat := measNumerator / (p + 1)

/-- Rounding to the nearest multiple of `10 × sm`, ties up: `((rawHz + 5 × sm) / (10 × sm)) × (10 × sm)` (R85). -/
def roundHz (raw sm : Nat) : Nat :=
  ((raw + measRoundStep / 2 * sm) / (measRoundStep * sm)) * (measRoundStep * sm)

/-- The measured frequency of a ready word under a multiplier (R84, R85). -/
def measuredHz (v : Word) (sm : Nat) : Word := BitVec.ofNat 32 (roundHz (rawHz (measPeriod v)) sm)

/-- MEASURE (R81). The speed mode is the one stored when the command starts (R134). -/
def execMeasure (sourceIndex : Word) (s : State) : Host.Outcome State Fault Refusal :=
  .next
    (match pollReady .meas measReady measPollTries (regWrite .measSelect (selectWord sourceIndex) s) with
    | (.timeout, s1) => respond .ok 0 0 0 s1
    | (.ready v, s1) => respond .ok (measuredHz v s.S.speedMode.multiplier) 0 0 s1)

end Sys2Proof.Machine
end

