-- ==== Sys2Proof/Machine/NcoTuning.lean ====
section
/-! DEFINITION. The NCO tuning engine (spec/43_nco_tuning.md): the divider word, the DCO programming sequence, SET_DCO,
SET_DETUNE, SET_CLOCK_SOURCE, GET_DCO, GET_DETUNE, GET_CLOCK_SOURCE. -/

namespace Sys2Proof.Machine

/-- `combined` after the shift (R87 steps 1 and 2): `(f × 1000 + m) × sm × 2^36`, an exact integer. -/
def dcoCombined (f m sm : Nat) : Int := ((f * dcoMilli + m) * sm * 2 ^ dcoShift : Nat)

/-- The linear detune correction (R87 step 3, R88), skipped for 0. -/
def dcoDetuned (c det : Int) : Int :=
  if det ≠ 0 then c + det * detuneUnit * (c / detuneDivisor) else c

/-- The divider-word function (R87): two floor divisions, then `trunc_32` (R89). -/
def dcoWord (f m sm : Nat) (det : Int) : Word :=
  BitVec.ofInt 32 (dcoDetuned (dcoCombined f m sm) det / dcoDiv1 / dcoDiv2)

/-- `DcoWord(f, m, S.speedMode, S.detune)`, of the stored fields "at the moment it runs" (R92). -/
def dcoWordOf (S : Stored) (f m : Word) : Word :=
  dcoWord f.toNat m.toNat S.speedMode.multiplier S.detune.toInt

/-- ProgramDCO's first line (R92): the word is computed and pending. -/
def prepareDco (f m : Word) (s : State) : State := s.setPendingDco (dcoWordOf s.S f m)

/-- ProgramDCO's other lines (R92): the pending word is written, then the frequency and millihertz are stored. -/
def writeDco (f m : Word) (s : State) : State := (regWrite .dco s.hid.pendingDco s).commitDco f m

/-- `ProgramDCO(f, m)` (R92); the word it returns is `pendingDco` of the result. -/
def programDco (f m : Word) (s : State) : State := writeDco f m (prepareDco f m s)

/-- SET_DCO (R93). -/
def execSetDco (freqHz milliHz : Word) (s : State) : Host.Outcome State Fault Refusal :=
  .next
    (if millisLegal milliHz then
      let s1 := programDco freqHz milliHz s
      respond .ok s1.hid.pendingDco 0 0 s1
    else raise .invalidArgument s)

/-- SET_DETUNE (R94). -/
def execSetDetune (detune : Int) (s : State) : Host.Outcome State Fault Refusal :=
  .next
    (if detuneLegal detune then
      let s1 := s.commitDetune (BitVec.ofInt 16 detune)
      let s2 := programDco s1.S.dco s1.S.dcoMillis s1
      respond .ok s2.hid.pendingDco 0 0 s2
    else raise .invalidArgument s)

/-- SET_CLOCK_SOURCE (R95). -/
def execSetClockSource (code : Byte) (s : State) : Host.Outcome State Fault Refusal :=
  .next (respond .ok (zext8 code) 0 0 ((regWrite .clockSource (zext8 code) s).commitClockSource code))

/-- GET_DCO (R96). -/
def execGetDco (s : State) : Host.Outcome State Fault Refusal :=
  .next (respond .ok s.S.dco s.S.dcoMillis 0 s)

/-- GET_DETUNE (R97). -/
def execGetDetune (s : State) : Host.Outcome State Fault Refusal :=
  .next (respond .ok (detuneWord s.S.detune) 0 0 s)

/-- GET_CLOCK_SOURCE (R98): INVALID_STATE where the map is undefined. -/
def answerClockSource (s : State) : State :=
  match clockSourceMap s.cfg.params s.S.clockSource with
  | none => raise .invalidState s
  | some src => respond .ok (BitVec.ofNat 32 (normalizedCode src)) (zext8 s.S.clockSource) 0 s

/-- GET_CLOCK_SOURCE (R98). -/
def execGetClockSource (s : State) : Host.Outcome State Fault Refusal := .next (answerClockSource s)

end Sys2Proof.Machine
end

