-- ==== Sys2Proof/Machine/SpeedModes.lean ====
section
/-! DEFINITION. The speed-mode state machine and rate configuration (spec/44_speed_mode.md): SET_SPEED_MODE,
CONFIGURE_RATE, GET_SPEED_MODE. -/

namespace Sys2Proof.Machine

/-- The mode the engine now stores, as the multiplier a response shows (R59, R107). -/
def modeWord (m : SpeedMode) : Word := BitVec.ofNat 32 m.multiplier

/-- `SpeedTransition(R)` (R102): clock-select, mode register, the mode stored, then ProgramDCO with the previous
frequency and millihertz under the new mode. -/
def speedTransition (m : SpeedMode) (s : State) : State :=
  let s1 := regWrite .speedClksel s.cfg.params.clkselValue s
  let s2 := regWrite .speedMode (modeReg m) s1
  let s3 := s2.commitSpeedMode m
  programDco s3.S.dco s3.S.dcoMillis s3

/-- SET_SPEED_MODE (R103): INVALID_ARGUMENT before NOOP (R114). -/
def execSetSpeedMode (requested : Byte) (s : State) : Host.Outcome State Fault Refusal :=
  .next
    (match modeOfCode requested with
    | none => raise .invalidArgument s
    | some m =>
      if m.exceeds s.cfg.params.maxSpeedMode then raise .noop s
      else
        let s1 := speedTransition m s
        respond .ok s1.hid.pendingDco (zext8 requested) 0 s1)

/-- CONFIGURE_RATE (R106): the intermediate DCO word uses the detune in force before the reset of detune. -/
def execConfigureRate (rate : Word) (s : State) : Host.Outcome State Fault Refusal :=
  .next
    (let m := rateMode s.cfg.params rate
    if m.exceeds s.cfg.params.maxSpeedMode then raise .rateTooHigh s
    else
      let s1 := (speedTransition m s).commitDetune 0
      let s2 := programDco rate 0 s1
      respond .ok s2.hid.pendingDco (modeWord m) 0 s2)

/-- GET_SPEED_MODE (R107). -/
def execGetSpeedMode (s : State) : Host.Outcome State Fault Refusal :=
  .next (respond .ok (modeWord s.S.speedMode) 0 0 s)

end Sys2Proof.Machine
end

