-- ==== Sys2Proof/Machine/Dispatch.lean ====
section
/-! DEFINITION. One arm per command: the command's own meaning, on a state that has accepted it (R45, R49). -/

namespace Sys2Proof.Machine

def exec (i : Instr) (s : State) : Host.Outcome State Fault Refusal :=
  match i with
  | .transfer cs wbits wdata rbits => Sys2Proof.Machine.execTransfer cs wbits wdata rbits s
  | .measure sourceIndex => Sys2Proof.Machine.execMeasure sourceIndex s
  | .setDco freqHz milliHz => Sys2Proof.Machine.execSetDco freqHz milliHz s
  | .setDetune detune => Sys2Proof.Machine.execSetDetune detune s
  | .setClockSource code => Sys2Proof.Machine.execSetClockSource code s
  | .setSpeedMode requested => Sys2Proof.Machine.execSetSpeedMode requested s
  | .configureRate rate => Sys2Proof.Machine.execConfigureRate rate s
  | .getDco => Sys2Proof.Machine.execGetDco s
  | .getDetune => Sys2Proof.Machine.execGetDetune s
  | .getClockSource => Sys2Proof.Machine.execGetClockSource s
  | .getSpeedMode => Sys2Proof.Machine.execGetSpeedMode s

end Sys2Proof.Machine
end

