-- ==== Sys2Proof/Machine/Sequencer.lean ====
section
/-! DEFINITION. The sequencer one micro-operation at a time (spec/10_state.md R17, 40_register_port.md R70): the position
`seq` walks through the command's pseudocode over the hidden state. It is what a reset in the middle of a command (R128)
and a host looking at the engine while `busy = 1` (R18, R131) see; the whole-command meanings are the same pseudocode at
once. Every transition but `entry` and the response records exactly one event. -/

namespace Sys2Proof.Machine

/-- After the bit counts (R72 step 4): to the data write, or past it. -/
def afterCounts (s : State) : State :=
  if writesData s.hid.cmd.wbits then s.goto .tData
  else if readsData s.hid.cmd.rbits then (s.setTries 0).goto .tPollRead
  else s.goto .tRespondNoRead

/-- After the data write (R72 step 5): to the read poll, or to the response. -/
def afterData (s : State) : State :=
  if readsData s.hid.cmd.rbits then (s.setTries 0).goto .tPollRead else s.goto .tRespondNoRead

/-- One read of a poll, and where it leads (R67). -/
def pollStep (r : DevReg) (test : Word → Bool) (onReady onFail : Pos) (s : State) : State :=
  let (v, s1) := pollRead r s
  if test v then s1.goto onReady else s1.goto onFail

/-- The delay after a failed try, and where it leads (R67). -/
def delayStep (T : Nat) (again onTimeout : Pos) (s : State) : State :=
  let s1 := delay s
  if s1.hid.tries < T then s1.goto again else s1.goto onTimeout

/-- The mode SET_SPEED_MODE's accepted packet requests (R55). -/
def requestedMode (s : State) : SpeedMode := (modeOfCode s.hid.cmd.code).getD .slow

/-- The mode CONFIGURE_RATE's accepted packet maps to (R56, R105). -/
def mappedMode (s : State) : SpeedMode := rateMode s.cfg.params s.hid.cmd.w1

/-- Before the first micro-operation: the packet is decoded and its operands are checked, in the order of R114; a
refused command, a reserved packet and a getter respond at once, without any access. -/
def enter (s : State) : State :=
  match decode s.hid.cmd with
  | .error _ => raise .illegalCommand s
  | .ok (.transfer _ _ _ _) => (s.setTries 0).goto .tPrepollRead
  | .ok (.measure _) => s.goto .mSelect
  | .ok (.setDco f m) =>
    if millisLegal m then (prepareDco f m s).goto .dWrite else raise .invalidArgument s
  | .ok (.setDetune d) =>
    if detuneLegal d then
      let s1 := s.commitDetune (BitVec.ofInt 16 d)
      (prepareDco s1.S.dco s1.S.dcoMillis s1).goto .eWrite
    else raise .invalidArgument s
  | .ok (.setClockSource _) => s.goto .cWrite
  | .ok (.setSpeedMode code) =>
    match modeOfCode code with
    | none => raise .invalidArgument s
    | some m => if m.exceeds s.cfg.params.maxSpeedMode then raise .noop s else s.goto .sClksel
  | .ok (.configureRate rate) =>
    if (rateMode s.cfg.params rate).exceeds s.cfg.params.maxSpeedMode then raise .rateTooHigh s
    else s.goto .rClksel
  | .ok .getDco => respond .ok s.S.dco s.S.dcoMillis 0 s
  | .ok .getDetune => respond .ok (detuneWord s.S.detune) 0 0 s
  | .ok .getClockSource => answerClockSource s
  | .ok .getSpeedMode => respond .ok (modeWord s.S.speedMode) 0 0 s

/-- One transition of the sequencer (R17). -/
def microStep (s : State) : State :=
  match s.hid.seq with
  | .idle => s
  | .entry => enter s
  -- TRANSFER (R72 to R77)
  | .tPrepollRead => pollStep .busStatus (busReady s.cfg.params) .tCs .tPrepollDelay s
  | .tPrepollDelay => delayStep busPollTries .tPrepollRead .tReset s
  | .tReset => (regWrite .busStatus s.cfg.params.busResetValue s).goto .tLog
  | .tLog => (diag .prepollTimeout s).flagPrepollTimeout.goto .tCs
  | .tCs => (regWrite .busCs (zext16 s.hid.cmd.cs) s).goto .tWbits
  | .tWbits => (regWrite .busWbits (zext16 s.hid.cmd.wbits) s).goto .tRbits
  | .tRbits => afterCounts (regWrite .busRbits (zext16 s.hid.cmd.rbits) s)
  | .tData => afterData (regWrite .busData (pack s.hid.cmd.w2 s.hid.cmd.wbits.toNat) s)
  | .tPollRead => pollStep .busStatus (busReady s.cfg.params) .tReadData .tPollDelay s
  | .tPollDelay => delayStep busPollTries .tPollRead .tRaiseTimeout s
  | .tReadData => (regRead .busData s).2.goto .tRespondData
  | .tRespondData =>
    respond .ok (unpack s.hid.latch s.hid.cmd.rbits.toNat) 0 (byteCount s.hid.cmd.rbits.toNat) s
  | .tRespondNoRead => respond .ok 0 0 0 s
  | .tRaiseTimeout => raise .timeout s
  -- MEASURE (R81 to R85)
  | .mSelect => ((regWrite .measSelect (selectWord s.hid.cmd.w1) s).setTries 0).goto .mRead
  | .mRead => pollStep .meas measReady .mRespondHz .mDelay s
  | .mDelay => delayStep measPollTries .mRead .mRespondNoLock s
  | .mRespondHz => respond .ok (measuredHz s.hid.latch s.S.speedMode.multiplier) 0 0 s
  | .mRespondNoLock => respond .ok 0 0 0 s
  -- SET_DCO (R93)
  | .dWrite => (writeDco s.hid.cmd.w1 s.hid.cmd.w2 s).goto .dRespond
  | .dRespond => respond .ok s.hid.pendingDco 0 0 s
  -- SET_DETUNE (R94)
  | .eWrite => (writeDco s.S.dco s.S.dcoMillis s).goto .eRespond
  | .eRespond => respond .ok s.hid.pendingDco 0 0 s
  -- SET_CLOCK_SOURCE (R95)
  | .cWrite =>
    ((regWrite .clockSource (zext8 s.hid.cmd.code) s).commitClockSource s.hid.cmd.code).goto .cRespond
  | .cRespond => respond .ok (zext8 s.hid.cmd.code) 0 0 s
  -- SET_SPEED_MODE (R102, R103)
  | .sClksel => (regWrite .speedClksel s.cfg.params.clkselValue s).goto .sMode
  | .sMode =>
    let s1 := (regWrite .speedMode (modeReg (requestedMode s)) s).commitSpeedMode (requestedMode s)
    (prepareDco s1.S.dco s1.S.dcoMillis s1).goto .sDco
  | .sDco => (writeDco s.S.dco s.S.dcoMillis s).goto .sRespond
  | .sRespond => respond .ok s.hid.pendingDco (zext8 s.hid.cmd.code) 0 s
  -- CONFIGURE_RATE (R106)
  | .rClksel => (regWrite .speedClksel s.cfg.params.clkselValue s).goto .rMode
  | .rMode =>
    let s1 := (regWrite .speedMode (modeReg (mappedMode s)) s).commitSpeedMode (mappedMode s)
    (prepareDco s1.S.dco s1.S.dcoMillis s1).goto .rDcoOld
  | .rDcoOld =>
    let s1 := (writeDco s.S.dco s.S.dcoMillis s).commitDetune 0
    (prepareDco s.hid.cmd.w1 0 s1).goto .rDcoNew
  | .rDcoNew => (writeDco s.hid.cmd.w1 0 s).goto .rRespond
  | .rRespond => respond .ok s.hid.pendingDco (modeWord (mappedMode s)) 0 s

/-- `n` transitions of the sequencer. -/
def microRun : Nat → State → State
  | 0, s => s
  | n + 1, s => microRun n (microStep s)

/-- More transitions than any command has: `entry`, at most 46 events (R139), the response. -/
def commandBound : Nat := 48

/-- A command in progress, run to its response: at `idle` a transition changes nothing (R125), so the bound does not
show. -/
def finish (s : State) : State := microRun commandBound s

/-- One transition of engine and host together (R45): the sequencer while `busy = 1`; else the host's next packet is
accepted; else nothing happens (R125). -/
def advance (s : State) : State :=
  if s.busy then microStep s
  else match s.offers with
    | [] => s
    | p :: ps => accept p { s with offers := ps }

/-- `n` transitions of engine and host together. -/
def advanceRun : Nat → State → State
  | 0, s => s
  | n + 1, s => advanceRun n (advance s)

/-- Which positions belong to a command in progress, with the conditions under which the pseudocode gets there: the
checks of R93, R94, R103, R106 passed, the guards of R72. -/
def positionOf (p : Params) (i : Except DecodeError Instr) : Pos → Bool
  | .idle => false
  | .entry => true
  | .tPrepollRead | .tPrepollDelay | .tReset | .tLog | .tCs | .tWbits | .tRbits =>
    match i with
    | .ok (.transfer _ _ _ _) => true
    | _ => false
  | .tData =>
    match i with
    | .ok (.transfer _ wbits _ _) => writesData wbits
    | _ => false
  | .tPollRead | .tPollDelay | .tReadData | .tRespondData | .tRaiseTimeout =>
    match i with
    | .ok (.transfer _ _ _ rbits) => readsData rbits
    | _ => false
  | .tRespondNoRead =>
    match i with
    | .ok (.transfer _ _ _ rbits) => !readsData rbits
    | _ => false
  | .mSelect | .mRead | .mDelay | .mRespondHz | .mRespondNoLock =>
    match i with
    | .ok (.measure _) => true
    | _ => false
  | .dWrite | .dRespond =>
    match i with
    | .ok (.setDco _ m) => millisLegal m
    | _ => false
  | .eWrite | .eRespond =>
    match i with
    | .ok (.setDetune d) => detuneLegal d
    | _ => false
  | .cWrite | .cRespond =>
    match i with
    | .ok (.setClockSource _) => true
    | _ => false
  | .sClksel | .sMode | .sDco | .sRespond =>
    match i with
    | .ok (.setSpeedMode code) =>
      match modeOfCode code with
      | some m => !m.exceeds p.maxSpeedMode
      | none => false
    | _ => false
  | .rClksel | .rMode | .rDcoOld | .rDcoNew | .rRespond =>
    match i with
    | .ok (.configureRate rate) => !(rateMode p rate).exceeds p.maxSpeedMode
    | _ => false

/-- The hidden state describes a command in progress (R17): its position is one of the accepted packet's pseudocode. -/
def inProgress (s : State) : Bool := positionOf s.cfg.params (decode s.hid.cmd) s.hid.seq

/-- The answer to a packet with a reserved opcode (R58, R113): no access, no stored field, ILLEGAL_COMMAND. -/
def answerReserved (s : State) : State := raise .illegalCommand s

/-- A state in which the host's next packet is `p`, the engine idle and no reset on its way: what the very next step
runs (log 5). -/
def offerNext (p : Packet) (s : State) : State :=
  { s with busy := false, hid := { s.hid with seq := .idle }, offers := p :: s.offers, resetIn := none }

/-- One step: a reset on its way arrives after its number of transitions (R126, R128); a command in progress runs to its
response; else the host's next packet is accepted (R45), decoded (R48) and executed, a reserved one answered
ILLEGAL_COMMAND (R113); with nothing offered the engine stays idle (R125). -/
def stepWith (run : Instr → State → Host.Outcome State Fault Refusal) (s : State) :
    Host.Outcome State Fault Refusal :=
  match s.resetIn with
  | some k => .next (applyReset (advanceRun k s))
  | none =>
    if s.busy then
      if inProgress s then .next (finish s) else .fault .sequencerUnwritten
    else match s.offers with
      | [] => .next s
      | p :: ps =>
        let s1 := accept p { s with offers := ps }
        match decode p with
        | .ok i => run i s1
        | .error _ => .next (answerReserved s1)

end Sys2Proof.Machine
end

