-- ==== Sys2Proof/Machine/Step.lean ====
section
/-! DEFINITION. One step of the machine: `stepWith` (Machine/Sequencer.lean) over the commands' meanings; and where the
host places the next packet. There is no instruction fetch (spec/20_memory.md R43): packets come through the command
port (R45, log 5). -/

namespace Sys2Proof.Machine

/-- One step: one whole command, or what `stepWith` says. -/
def step (s : State) : Host.Outcome State Fault Refusal := stepWith exec s

/-- `s` with the packet of an opcode-table word offered next, so that the very next step accepts and runs it (R45). -/
def State.withFetchWord (s : State) (nbits w : Nat) : State := offerNext (packetOfBits nbits w) s

end Sys2Proof.Machine
end

