-- ==== Sys2Proof/Safety.lean ====
section
/-! DEFINITION. What counts as a coherent state and a safe run, in the terms the statements use: the invariant of the
engine (spec/10_state.md R10, R12, R16, R17; spec/30_encoding.md R59, R60), what a bounded poll records (R67), what a
command may leave changed, and the agreement of REG_DCO with the stored fields (R15). -/

namespace Sys2Proof.Machine

/-! ### The invariant -/

/-- `busy` is 1 exactly while a command is in progress (R16, R17): the sequencer is idle when it is 0, and stands at a
position of the accepted packet's pseudocode when it is 1. -/
def handshakeOk (s : State) : Bool :=
  if s.busy then inProgress s else s.hid.seq == .idle

/-- The stored fields' legal values (R9, R10, R12, R100): the mode is within the variant's maximum, the millihertz are
0..999, the detune is -200..200. -/
def storedOk (s : State) : Bool :=
  !s.S.speedMode.exceeds s.cfg.params.maxSpeedMode && millisLegal s.S.dcoMillis && detuneLegal s.S.detune.toInt

/-- The response words' form (R59, R60): the zero bits are 0, the status is one of 0..6, the count is at most 4; for
every status other than OK, R1 = R2 = 0 and COUNT = 0; and they are all 0 while `done` is 0 (R29, R131). -/
def responseOk (s : State) : Bool :=
  s.rsp.rsp0 &&& rsp0ZeroBits == 0#32 && decide (s.rsp.status.toNat ≤ 6) && decide (s.rsp.count.toNat ≤ 4)
    && (s.rsp.status == 0#4 || (s.rsp.rsp1 == 0#32 && s.rsp.rsp2 == 0#32 && s.rsp.count == 0#3))
    && (s.done || s.rsp == Response.atReset)

/-- The reads the current poll has made (R17: "0 .. its try budget"), below the budget where another read comes. -/
def triesOk (s : State) : Bool :=
  match s.hid.seq with
  | .tPrepollRead | .tPollRead => decide (s.hid.tries < busPollTries)
  | .tPrepollDelay | .tPollDelay => decide (s.hid.tries ≤ busPollTries)
  | .mRead => decide (s.hid.tries < measPollTries)
  | .mDelay => decide (s.hid.tries ≤ measPollTries)
  | _ => true

/-- The invariant of the engine. -/
def Coherent (s : State) : Bool := handshakeOk s && storedOk s && responseOk s && triesOk s

/-! ### Traces -/

/-- A failed try of a poll (R67): a read, then a delay. -/
def failedTry (off : Nat) (v : Word) : List Event := [.read off v, .delay]

/-- `es` is what a poll of `off` with a budget of `T` tries records when its result is `res` (R67): failing reads, each
followed by a delay; then, if the poll is ready, the passing read, within the budget; on a timeout exactly T of them. -/
def PollEvents (off : Nat) (test : Word → Bool) (T : Nat) (es : List Event) (res : PollResult) : Prop :=
  ∃ fails : List Word, (∀ v ∈ fails, test v = false) ∧
    match res with
    | .timeout => fails.length = T ∧ es = fails.flatMap (failedTry off)
    | .ready v => test v = true ∧ fails.length < T ∧ es = fails.flatMap (failedTry off) ++ [.read off v]

/-- The values the reads of a trace returned, oldest first. -/
def readValues (es : List Event) : List Word :=
  es.filterMap fun e =>
    match e with
    | .read _ v => some v
    | _ => none

/-- The offset of an access; delays and log records have none. -/
def accessOffset : Event → Option Nat
  | .write off _ => some off
  | .read off _ => some off
  | .delay => none
  | .log _ => none

/-! ### What a command leaves -/

/-- The engine is idle with a response published (R61, R141). -/
structure Published (t : State) : Prop where
  busy : t.busy = false
  done : t.done = true
  seq  : t.hid.seq = .idle

/-- What no command touches: the configuration, the host's packets, the reset's arrival, the latched packet (R43). -/
structure Untouched (s t : State) : Prop where
  cfg     : t.cfg = s.cfg
  offers  : t.offers = s.offers
  resetIn : t.resetIn = s.resetIn
  cmd     : t.hid.cmd = s.hid.cmd

/-- What a command that reads no register leaves besides: the device's answers, the latch, the poll counter, the
pre-poll flag. -/
structure NoReads (s t : State) : Prop where
  answers        : t.answers = s.answers
  draws          : t.draws = s.draws
  latch          : t.hid.latch = s.hid.latch
  tries          : t.hid.tries = s.hid.tries
  prepollTimeout : t.hid.prepollTimeout = s.hid.prepollTimeout

/-- What a raise with status `e` before any micro-operation leaves (R110, R111): the response, and nothing else changed. -/
structure Refused (e : Status) (s t : State) : Prop where
  rsp        : t.rsp = ⟨rsp0Word e s.hid.prepollTimeout 0, 0, 0⟩
  trace      : t.trace = s.trace
  S          : t.S = s.S
  pendingDco : t.hid.pendingDco = s.hid.pendingDco
  untouched  : Untouched s t
  noReads    : NoReads s t
  published  : Published t

/-- What a command that records `es` takes of the device's answers: one for each read, in order, the given ones first
(R36, R63). -/
structure Answered (s t : State) (es : List Event) : Prop where
  draws   : t.draws = s.draws + (readValues es).length
  answers : t.answers = s.answers.drop (readValues es).length
  given   : (readValues es).take s.answers.length = s.answers.take (readValues es).length

/-! ### The DCO agreement -/

/-- REG_DCO was last written with the divider word of the stored fields (R15). -/
def DcoAgrees (s : State) : Prop :=
  lastWrite s.cfg.params.regDco s.trace = some (dcoWordOf s.S s.S.dco s.S.dcoMillis)

/-- The commands that write REG_DCO (R15): "SET_DCO, SET_DETUNE, SET_SPEED_MODE and CONFIGURE_RATE". -/
def writesDco : Instr → Bool
  | .transfer _ _ _ _ => false
  | .measure _ => false
  | .setDco _ _ => true
  | .setDetune _ => true
  | .setClockSource _ => false
  | .setSpeedMode _ => true
  | .configureRate _ => true
  | .getDco => false
  | .getDetune => false
  | .getClockSource => false
  | .getSpeedMode => false

/-- No other register that a command without a DCO write drives shares REG_DCO's offset: then "nothing but the engine['s
DCO programming] writes REG_DCO" (R15, R37 allows the offsets to coincide). -/
def dcoOffsetAlone (p : Params) : Bool :=
  [p.regBusStatus, p.regBusCs, p.regBusWbits, p.regBusRbits, p.regBusData, p.regMeasSelect, p.regClockSource].all
    fun o => o != p.regDco

/-! ### Bounds -/

/-- The table of R139: the events of a command that ends with status OK (`ok`), or with another status. -/
def eventBound (i : Instr) (ok : Bool) : Nat × Nat :=
  match i, ok with
  | .transfer _ _ _ _, true => (4, 46)
  | .transfer _ _ _ _, false => (24, 46)
  | .measure _, true => (2, 11)
  | .measure _, false => (0, 0)
  | .setDco _ _, true => (1, 1)
  | .setDco _ _, false => (0, 0)
  | .setDetune _, true => (1, 1)
  | .setDetune _, false => (0, 0)
  | .setClockSource _, true => (1, 1)
  | .setClockSource _, false => (0, 0)
  | .setSpeedMode _, true => (3, 3)
  | .setSpeedMode _, false => (0, 0)
  | .configureRate _, true => (4, 4)
  | .configureRate _, false => (0, 0)
  | .getDco, _ => (0, 0)
  | .getDetune, _ => (0, 0)
  | .getClockSource, _ => (0, 0)
  | .getSpeedMode, _ => (0, 0)

end Sys2Proof.Machine
end

