-- ==== Sys2Proof/Certificates/Slice0/Obligations.lean ====
section
/-! DEFINITION. The statements for the provers, from the numbered rules of spec/: encoding (R47 to R62), the step and the
command port (R16, R18, R43, R45), the poll (R67), the eleven commands (R72 to R108), errors (R109 to R117), reset (R126
to R129), and the bounds (R139, R141). -/

open Sys2Proof Sys2Proof.Machine

/-! ### Encoding -/

/-- Decoding an encoded well-formed command gives it back, every operand at every value its field admits (R50 to R57,
R62). -/
def Obligations.DecodeOfEncodeIsTheCommand : Prop :=
  ∀ i : Instr, i.WellFormed = true → decode (encode i) = .ok i

/-- R48: "Every bit a command's field table does not name is ignored". A packet that decodes to a command differs from
that command's encoding in ignored bits only: the fields of R50 to R57 are named by the masks, per opcode. -/
def Obligations.OnlyNamedFieldsDecide : Prop :=
  ∀ (p q : Packet) (i : Instr), decode p = .ok i →
    let masks : Word × Word × Word :=
      match i with
      | .transfer _ _ _ _ => (0xFFFF000F, 0xFFFFFFFF, 0xFFFFFFFF)
      | .measure _ => (0x0000000F, 0xFFFFFFFF, 0)
      | .setDco _ _ => (0x0000000F, 0xFFFFFFFF, 0xFFFFFFFF)
      | .setDetune _ => (0x0000000F, 0x0000FFFF, 0)
      | .setClockSource _ => (0x0000000F, 0x000000FF, 0)
      | .setSpeedMode _ => (0x0000000F, 0x000000FF, 0)
      | .configureRate _ => (0x0000000F, 0xFFFFFFFF, 0)
      | .getDco => (0x0000000F, 0, 0)
      | .getDetune => (0x0000000F, 0, 0)
      | .getClockSource => (0x0000000F, 0, 0)
      | .getSpeedMode => (0x0000000F, 0, 0)
    encode i = ⟨p.w0 &&& masks.1, p.w1 &&& masks.2.1, p.w2 &&& masks.2.2⟩ ∧
    (q.w0 &&& masks.1 = p.w0 &&& masks.1 → q.w1 &&& masks.2.1 = p.w1 &&& masks.2.1 →
      q.w2 &&& masks.2.2 = p.w2 &&& masks.2.2 → decode q = .ok i)

/-- R49, R58: exactly the opcodes 0x0 and 0xC to 0xF of W0[3:0] stand for no command, whatever the other 92 bits. -/
def Obligations.ReservedOpcodesAreExactlyThese : Prop :=
  ∀ p : Packet, (∃ e, decode p = .error e) ↔ p.w0.toNat % 16 = 0 ∨ 12 ≤ p.w0.toNat % 16

/-- Words written out from the encodings of R50 to R57 and the corner cases of 95_test_vectors.md V1. -/
def Obligations.WordsOfTheManualDecode : Prop :=
  decode ⟨0x00030001, 0x000C000C, 0xA5C30000⟩ = .ok (.transfer 3 12 0xA5C30000 12) ∧
  decode ⟨0x00000002, 0x00000002, 0⟩ = .ok (.measure 2) ∧
  decode ⟨0x00000003, 0x0000AC44, 0x000001F4⟩ = .ok (.setDco 44100 500) ∧
  decode ⟨0x00000004, 0x0000FF38, 0⟩ = .ok (.setDetune (-200)) ∧
  decode ⟨0x00000004, 0x00008000, 0⟩ = .ok (.setDetune (-32768)) ∧
  decode ⟨0x00000005, 0x00000102, 0⟩ = .ok (.setClockSource 2) ∧
  decode ⟨0x12340007, 0x0000C350, 0⟩ = .ok (.configureRate 50000) ∧
  decode ⟨0x0000FFF8, 0xDEADBEEF, 0⟩ = .ok .getDco

/-- R62: every line whose numbers fit their fields, and every SET_DETUNE line, has a packet, whose W0, W1 and W2 are those of R62's table in the line's
own numbers (`cs << 16 | 1` is `cs * 65536 + 1` for a 16-bit `cs`; `trunc_16(cents)` is `cents` modulo 65536), a
pseudo-instruction's those of its expansion; and that packet decodes to the line's command, SET_DETUNE's with the cents
themselves where they are a 16-bit signed value. -/
def Obligations.AssembledLinesDecode : Prop :=
  ∀ l : AsmLine, l.WellFormed = true →
    ∃ p, assemble l = some p ∧ assemble l.expand = some p ∧ decode p = .ok l.toInstr ∧
      ((p.w0.toNat : Int), (p.w1.toNat : Int), (p.w2.toNat : Int)) =
        (match l with
        | .transfer cs wbits wdata rbits => (cs * 65536 + 0x1, rbits * 65536 + wbits, wdata)
        | .measure idx => (0x2, idx, 0)
        | .setDco hz millis => (0x3, hz, millis)
        | .setDetune cents => (0x4, cents % 65536, 0)
        | .setClockSource code => (0x5, code, 0)
        | .setSpeedMode mult => (0x6, mult, 0)
        | .configureRate hz => (0x7, hz, 0)
        | .getDco => (0x8, 0, 0)
        | .getDetune => (0x9, 0, 0)
        | .getClockSource => (0xA, 0, 0)
        | .getSpeedMode => (0xB, 0, 0)
        | .spiWrite cs wbits wdata => (cs * 65536 + 0x1, wbits, wdata)
        | .spiRead cs rbits => (cs * 65536 + 0x1, rbits * 65536, 0)
        | .setFreq hz => (0x3, hz, 0)) ∧
      (∀ cents, l = .setDetune cents → ∃ d, decode p = .ok (.setDetune d) ∧ -32768 ≤ d ∧ d ≤ 32767 ∧
        (65536 : Int) ∣ d - cents ∧ (-32768 ≤ cents → cents ≤ 32767 → d = cents)) ∧
      (∀ cs wbits wdata, l = .spiWrite cs wbits wdata → l.expand = .transfer cs wbits wdata 0) ∧
      (∀ cs rbits, l = .spiRead cs rbits → l.expand = .transfer cs 0 0 rbits) ∧
      (∀ hz, l = .setFreq hz → l.expand = .setDco hz 0)

/-! ### The step and the command port -/

/-- R45, R48, R61: with no reset on its way, an idle engine accepts the host's next packet (latched into `cmd`,
`busy <- 1`, `prepollTimeout <- 0`), and the step is the meaning of the decoded command at that state. -/
def Obligations.StepRunsTheOfferedCommand : Prop :=
  ∀ (s : State) (p : Packet) (ps : List Packet) (i : Instr),
    s.resetIn = none → s.busy = false → s.offers = p :: ps → decode p = .ok i →
    ∃ s1, step s = exec i s1 ∧
      s1 = { s with offers := ps, busy := true,
                    hid := { s.hid with cmd := p, seq := .entry, prepollTimeout := false } }

/-- R58, R113: "The engine makes no access, writes no stored field, and leaves `prepollTimeout` at 0"; the response is
status ILLEGAL_COMMAND with R1 = R2 = 0 and COUNT = 0. -/
def Obligations.ReservedPacketIsAnsweredIllegal : Prop :=
  ∀ (s : State) (p : Packet) (ps : List Packet),
    s.resetIn = none → s.busy = false → s.offers = p :: ps →
    (p.opc = 0x0 ∨ p.opc = 0xC ∨ p.opc = 0xD ∨ p.opc = 0xE ∨ p.opc = 0xF) →
    ∃ t, step s = .next t ∧ t.rsp = ⟨0x00000006, 0, 0⟩ ∧ t.trace = s.trace ∧ t.S = s.S ∧
      t.hid.prepollTimeout = false ∧ t.offers = ps ∧ t.cfg = s.cfg ∧ t.answers = s.answers ∧
      t.draws = s.draws ∧ Published t

/-- R125: "With `busy = 0` it is idle and does nothing until a command arrives." -/
def Obligations.IdleEngineWaits : Prop :=
  ∀ s : State, s.resetIn = none → s.busy = false → s.offers = [] → step s = .next s ∧ advance s = s

/-- R43, R45: "the port takes no new packet while `busy = 1`"; an offered packet is held, not lost, and the latched one
does not change. -/
def Obligations.BusyPortHoldsTheOffer : Prop :=
  ∀ (s : State) (p : Packet), s.busy = true →
    issue p s = none ∧ (advance s).offers = s.offers ∧ (advance s).hid.cmd = s.hid.cmd ∧
    (finish s).offers = s.offers ∧ (finish s).hid.cmd = s.hid.cmd

/-- R18, R131: "A published response stays unchanged until the next command's response is published": no other transition
of engine or host changes the response words or `done`, and while `busy` is 1 they describe no valid response. -/
def Obligations.ResponseIsStaleWhileBusy : Prop :=
  ∀ s : State, (s.busy = false ∨ (advance s).busy = true) →
    (advance s).rsp = s.rsp ∧ (advance s).done = s.done ∧ (s.busy = true → responseValid (advance s) = false)

/-- R16, R61: a transition that publishes a response sets `done` to 1 and `busy` to 0 and records no micro-operation;
`done` stays 1 ("until reset") on every transition. -/
def Obligations.DoneStaysUntilReset : Prop :=
  ∀ s : State, (s.done = true → (advance s).done = true) ∧
    (s.busy = true → (advance s).busy = false → (advance s).done = true ∧ (advance s).trace = s.trace)

/-- R17, R39: one transition of the sequencer performs at most one micro-operation, and takes nothing back. -/
def Obligations.OneMicroOperationAtATime : Prop :=
  ∀ s : State, ∃ es : List Event, (microStep s).trace = s.trace ++ es ∧ es.length ≤ 1 ∧
    Answered s (microStep s) es

/-! ### Whole commands and single micro-operations agree -/

/-- The whole-command step and the sequencer's walk from micro-operation to micro-operation (R17, R70) are one machine:
from an idle engine with a packet offered, the step's state is the accepted packet's command run to its response, hidden
state and all. -/
def Obligations.StepIsTheSequencersRun : Prop :=
  ∀ (s : State) (p : Packet) (ps : List Packet),
    s.resetIn = none → s.busy = false → s.offers = p :: ps →
    step s = .next (finish (accept p { s with offers := ps }))

/-- R46, R139: "The engine owes the host a published response and `busy = 0` after a bounded number of
micro-operations, for every command and every sequence of read answers": from any coherent state with a command in
progress, 48 transitions reach the response. -/
def Obligations.CommandInProgressReachesItsResponse : Prop :=
  ∀ s : State, Coherent s = true → s.busy = true →
    ∃ n, n ≤ 48 ∧ (microRun n s).busy = false ∧ (microRun n s).done = true ∧ microRun n s = finish s ∧
      ∀ k, k < n → (microRun k s).busy = true

/-! ### The register port -/

/-- R67: what a poll records and how it ends, for every device: at most T reads, a delay after every failed one, none
before the first; `tries` counts the reads; the passing word is latched; and nothing else of the state changes. -/
def Obligations.PollIsBounded : Prop :=
  ∀ (r : DevReg) (test : Word → Bool) (T : Nat) (s : State),
    ∃ es, PollEvents (s.cfg.params.offset r) test T es (pollReady r test T s).1 ∧
      (pollReady r test T s).2.trace = s.trace ++ es ∧
      (pollReady r test T s).2.hid.tries = (readValues es).length ∧ (readValues es).length ≤ T ∧
      (∀ v, (pollReady r test T s).1 = .ready v → (pollReady r test T s).2.hid.latch = v) ∧
      Answered s (pollReady r test T s).2 es ∧ (pollReady r test T s).2.S = s.S ∧
      (pollReady r test T s).2.rsp = s.rsp ∧ (pollReady r test T s).2.busy = s.busy ∧
      (pollReady r test T s).2.done = s.done ∧ (pollReady r test T s).2.hid.seq = s.hid.seq ∧
      (pollReady r test T s).2.hid.prepollTimeout = s.hid.prepollTimeout ∧
      (pollReady r test T s).2.hid.pendingDco = s.hid.pendingDco ∧
      Untouched s (pollReady r test T s).2

/-- R32: "`MemRead(IOBASE + off, 4)` and `RegRead(off)` are one operation; so are `MemWrite(IOBASE + off, 4, v)` and
`RegWrite(off, v)`", and "No other size n exists". -/
def Obligations.MemAccessIsRegisterAccess : Prop :=
  ∀ (r : DevReg) (v : Word) (n : Nat) (s : State),
    memRead (Config.ioBase + s.cfg.params.offset r) 4 s = some (regRead r s) ∧
    memWrite (Config.ioBase + s.cfg.params.offset r) 4 v s = some (regWrite r v s) ∧
    (n ≠ 4 → ∀ a, memRead a n s = none ∧ memWrite a n v s = none)

/-- R68, R69, R21: the measurement test is the top bit and nothing else; the bus test is the comparison of the masked bits
with the sentinel, so a full-word match where the mask is full; the period is bits 17:0. -/
def Obligations.ReadinessTestsReadOnlyTheirBits : Prop :=
  (∀ v : Word, measReady v = true ↔ 2 ^ 31 ≤ v.toNat) ∧
  (∀ (p : Params) (v : Word), busReady p v = true ↔ v &&& p.busReadyMask = p.busReadyValue) ∧
  (∀ (p : Params) (v w : Word), v &&& p.busReadyMask = w &&& p.busReadyMask → busReady p v = busReady p w) ∧
  (∀ (p : Params) (v : Word), p.busReadyMask = 0xFFFFFFFF → (busReady p v = true ↔ v = p.busReadyValue)) ∧
  (∀ v w : Word, v &&& 0x0003FFFF = w &&& 0x0003FFFF → measPeriod v = measPeriod w) ∧
  (∀ v : Word, measPeriod v = v.toNat % 2 ^ 18 ∧ measPeriod v < 262144)

/-- R31, R71: the engine reads and writes at no other offset than the eleven, and each direction only at the registers of
R20's table: reads at the bus status, bus data and measurement registers; writes at the ten registers other than the
measurement register, which "The engine only reads" (R21). R37 lets an offset of those ten be equal to it. -/
def Obligations.AccessesStayInTheWindow : Prop :=
  ∀ (i : Instr) (s : State), ∃ t es, exec i s = .next t ∧ t.trace = s.trace ++ es ∧
    ∀ e ∈ es, (∀ off v, e = .read off v →
        off = s.cfg.params.regBusStatus ∨ off = s.cfg.params.regBusData ∨ off = s.cfg.params.regMeas) ∧
      (∀ off v, e = .write off v → off ∈ [s.cfg.params.regBusStatus, s.cfg.params.regBusCs, s.cfg.params.regBusWbits,
        s.cfg.params.regBusRbits, s.cfg.params.regBusData, s.cfg.params.regMeasSelect, s.cfg.params.regDco,
        s.cfg.params.regSpeedClksel, s.cfg.params.regSpeedMode, s.cfg.params.regClockSource]) ∧
      (∀ off, accessOffset e = some off → off % 4 = 0 ∧ off < s.cfg.params.windowSize)

/-! ### TRANSFER -/

/-- R72 whole, with its steps R73 to R77 and its corner cases R78, for every device: the pre-poll with its recovery, the
chip-select and both counts in this order, the packed data write, the read poll, the one data read, and the response;
TIMEOUT only from the read poll; no stored field read or written. -/
def Obligations.TransferFollowsItsAlgorithm : Prop :=
  ∀ (cs wbits : Half) (wdata : Word) (rbits : Half) (s : State), s.hid.prepollTimeout = false →
    ∃ (t : State) (pre : List Event) (r1 : PollResult) (rd : List Event),
      exec (.transfer cs wbits wdata rbits) s = .next t ∧
      PollEvents s.cfg.params.regBusStatus (busReady s.cfg.params) 10 pre r1 ∧
      t.trace = s.trace ++ (pre
        ++ (if r1 = .timeout then
              [.write s.cfg.params.regBusStatus s.cfg.params.busResetValue, .log .prepollTimeout] else [])
        ++ [.write s.cfg.params.regBusCs (cs.setWidth 32), .write s.cfg.params.regBusWbits (wbits.setWidth 32),
            .write s.cfg.params.regBusRbits (rbits.setWidth 32)]
        ++ (if wbits.toNat ≤ 32 then [.write s.cfg.params.regBusData (pack wdata wbits.toNat)] else [])
        ++ rd) ∧
      (¬ (1 ≤ rbits.toNat ∧ rbits.toNat ≤ 32) →
        rd = [] ∧ t.rsp = ⟨rsp0Word .ok (decide (r1 = .timeout)) 0, 0, 0⟩) ∧
      (1 ≤ rbits.toNat ∧ rbits.toNat ≤ 32 →
        (PollEvents s.cfg.params.regBusStatus (busReady s.cfg.params) 10 rd .timeout ∧
          t.rsp = ⟨rsp0Word .timeout (decide (r1 = .timeout)) 0, 0, 0⟩) ∨
        (∃ (p2 : List Event) (v d : Word),
          PollEvents s.cfg.params.regBusStatus (busReady s.cfg.params) 10 p2 (.ready v) ∧
          rd = p2 ++ [.read s.cfg.params.regBusData d] ∧
          t.rsp = ⟨rsp0Word .ok (decide (r1 = .timeout)) ((rbits.toNat + 7) / 8), unpack d rbits.toNat, 0⟩)) ∧
      t.S = s.S ∧ t.hid.prepollTimeout = decide (r1 = .timeout) ∧ t.hid.pendingDco = s.hid.pendingDco ∧
      Untouched s t ∧ Published t ∧
      (∀ es, t.trace = s.trace ++ es → Answered s t es)

/-- R75: the first n bits of the payload, first bit at bit n - 1, all higher bits 0; 0 for n = 0; which is
`trunc_32(wdata / 2^(32-n))`. -/
def Obligations.PackPlacesTheFirstBits : Prop :=
  ∀ (w : Word) (n : Nat), n ≤ 32 →
    (∀ j, (pack w n).getLsbD j = (decide (j < n) && w.getLsbD (32 - n + j))) ∧
    (n = 0 → pack w n = 0) ∧ (1 ≤ n → (pack w n).toNat = w.toNat / 2 ^ (32 - n))

/-- R77: the left shift discards the unused high bits; COUNT = ⌈n/8⌉ bytes are produced, 1 to 4 of them, and the bytes
beyond COUNT are 0. -/
def Obligations.UnpackLeftAlignsTheRead : Prop :=
  ∀ (d : Word) (n : Nat), 1 ≤ n → n ≤ 32 →
    (∀ j, (unpack d n).getLsbD j = (decide (32 - n ≤ j ∧ j < 32) && d.getLsbD (j - (32 - n)))) ∧
    (∀ k, byteCount n ≤ k → k < 4 → payloadByte (unpack d n) k = 0) ∧
    8 * (byteCount n - 1) < n ∧ n ≤ 8 * byteCount n ∧ 1 ≤ byteCount n ∧ byteCount n ≤ 4

/-- R80, the round-trip law: on a loopback device that is always ready, "`TRANSFER cs, n, w, n` responds OK with
COUNT = ⌈n/8⌉ and `R1 = w & (0xFFFFFFFF << (32 − n))`" for every n in 1..32. The device is one whose read of
REG_BUS_DATA answers the last word the trace shows written there. -/
def Obligations.LoopbackReturnsThePayload : Prop :=
  ∀ (cs : Half) (w r1 r2 d : Word) (rest : List Word) (n : Nat) (s : State), 1 ≤ n → n ≤ 32 →
    s.hid.prepollTimeout = false → busReady s.cfg.params r1 = true → busReady s.cfg.params r2 = true →
    s.answers = r1 :: r2 :: d :: rest →
    ∃ (t : State) (es : List Event),
      exec (.transfer cs (BitVec.ofNat 16 n) w (BitVec.ofNat 16 n)) s = .next t ∧
      t.trace = s.trace ++ (es ++ [.read s.cfg.params.regBusStatus r2, .read s.cfg.params.regBusData d]) ∧
      (∃ x, lastWrite s.cfg.params.regBusData (s.trace ++ es) = some x ∧
        (d = x → t.rsp.status = 0 ∧ t.rsp.prepollTimeout = false ∧ t.rsp.count.toNat = (n + 7) / 8 ∧
          t.rsp.rsp1 = w &&& (0xFFFFFFFF#32 <<< (32 - n)) ∧ t.rsp.rsp2 = 0 ∧
          t.answers = rest ∧ t.S = s.S))

/-- R76, R73, R114: on a bus that never reports ready, the pre-poll timeout is recovered and flagged, the read poll's ends
the command with TIMEOUT, RSP0 = 0x00000101, "REG_BUS_DATA is not read" and no second reset sentinel is written. -/
def Obligations.NeverReadyBusTimesOut : Prop :=
  ∀ (cs wbits : Half) (wdata : Word) (rbits : Half) (vs ws rest : List Word) (s : State),
    1 ≤ rbits.toNat → rbits.toNat ≤ 32 → s.hid.prepollTimeout = false →
    vs.length = 10 → ws.length = 10 → (∀ v ∈ vs ++ ws, busReady s.cfg.params v = false) →
    s.answers = vs ++ ws ++ rest →
    ∃ t, exec (.transfer cs wbits wdata rbits) s = .next t ∧ t.rsp = ⟨0x00000101, 0, 0⟩ ∧
      t.trace = s.trace ++ (vs.flatMap (failedTry s.cfg.params.regBusStatus)
        ++ [.write s.cfg.params.regBusStatus s.cfg.params.busResetValue, .log .prepollTimeout,
            .write s.cfg.params.regBusCs (cs.setWidth 32), .write s.cfg.params.regBusWbits (wbits.setWidth 32),
            .write s.cfg.params.regBusRbits (rbits.setWidth 32)]
        ++ (if wbits.toNat ≤ 32 then [.write s.cfg.params.regBusData (pack wdata wbits.toNat)] else [])
        ++ ws.flatMap (failedTry s.cfg.params.regBusStatus)) ∧
      t.answers = rest ∧ t.S = s.S ∧ 20 ≤ leastDelayMs t.trace

/-! ### MEASURE -/

/-- R81 whole, with R82, R83: one select write of the index under 0x7, at most 5 reads of REG_MEAS, the conversion and
rounding of the first ready one under the stored speed mode; on a timeout OK with R1 = 0; nothing stored is written. A
result at try k has 1 + (2k - 1) events, a timeout 11 (R86 (c), R139). -/
def Obligations.MeasureFollowsItsAlgorithm : Prop :=
  ∀ (idx : Word) (s : State),
    ∃ (t : State) (poll : List Event) (r : PollResult),
      exec (.measure idx) s = .next t ∧
      PollEvents s.cfg.params.regMeas measReady 5 poll r ∧
      t.trace = s.trace ++ ([.write s.cfg.params.regMeasSelect (BitVec.ofNat 32 (idx.toNat % 8))] ++ poll) ∧
      (r = .timeout → t.rsp = ⟨rsp0Word .ok s.hid.prepollTimeout 0, 0, 0⟩ ∧ poll.length = 10) ∧
      (∀ v, r = .ready v →
        t.rsp = ⟨rsp0Word .ok s.hid.prepollTimeout 0,
          BitVec.ofNat 32 ((1280000000 / (v.toNat % 262144 + 1) + 5 * s.S.speedMode.multiplier)
            / (10 * s.S.speedMode.multiplier) * (10 * s.S.speedMode.multiplier)), 0⟩ ∧
        ∃ k, 1 ≤ k ∧ k ≤ 5 ∧ poll.length = 2 * k - 1) ∧
      t.S = s.S ∧ t.hid.prepollTimeout = s.hid.prepollTimeout ∧ t.hid.pendingDco = s.hid.pendingDco ∧
      Untouched s t ∧ Published t ∧ (∀ es, t.trace = s.trace ++ es → Answered s t es)

/-- R85: write `rawHz = k·s + r` with `0 ≤ r < s`, s = 10·sm; "hz = k·s when r < s/2, and hz = (k + 1)·s when r ≥ s/2".
So the result is the nearest multiple of s, a tie rounds up, and a multiple is its own rounding (R86 (b)). -/
def Obligations.RoundingIsToTheNearestMultiple : Prop :=
  ∀ (m : SpeedMode) (k r : Nat), r < 10 * m.multiplier →
    (∀ raw, roundHz raw m.multiplier =
      ((raw + 5 * m.multiplier) / (10 * m.multiplier)) * (10 * m.multiplier)) ∧
    roundHz (k * (10 * m.multiplier) + r) m.multiplier =
      (if 2 * r < 10 * m.multiplier then k else k + 1) * (10 * m.multiplier) ∧
    (∀ v : Word, rawHz (measPeriod v) + 5 * m.multiplier ≤ 1280000020)

/-- R84, R86 (a): a ready result is a multiple of 10·sm between 4880 and 1 280 000 000, it fits the word, and so R1 = 0
happens only on a timeout. -/
def Obligations.ReadyMeasurementIsNeverZero : Prop :=
  ∀ (v : Word) (m : SpeedMode),
    4882 ≤ rawHz (measPeriod v) ∧ rawHz (measPeriod v) ≤ 1280000000 ∧
    (measuredHz v m.multiplier).toNat = roundHz (rawHz (measPeriod v)) m.multiplier ∧
    (measuredHz v m.multiplier).toNat % (10 * m.multiplier) = 0 ∧
    4880 ≤ (measuredHz v m.multiplier).toNat ∧ (measuredHz v m.multiplier).toNat ≤ 1280000000

/-- R86 (d): "MEASURE never accesses a control-bus register", in every well-formed configuration (R37). -/
def Obligations.MeasureLeavesTheBusAlone : Prop :=
  ∀ (idx : Word) (s : State), ∃ t es, exec (.measure idx) s = .next t ∧ t.trace = s.trace ++ es ∧
    ∀ e ∈ es, ∀ off, accessOffset e = some off → off ∉ s.cfg.params.busOffsets

/-! ### The divider word -/

/-- R87: with det = 0, `q = ((1000·f + m) · sm · 2^23) / 9765625`; and for every legal detune the two floor divisions are
the one division by 80000000000 of the corrected numerator. -/
def Obligations.DividerWordClosedForm : Prop :=
  ∀ (f m : Nat) (sm : SpeedMode) (det : Int), -200 ≤ det → det ≤ 200 →
    dcoWord f m sm.multiplier 0 = BitVec.ofNat 32 ((1000 * f + m) * sm.multiplier * 2 ^ 23 / 9765625) ∧
    ∃ c : Int, c = ((f * 1000 + m) * sm.multiplier * 2 ^ 36 : Nat) ∧
      dcoWord f m sm.multiplier det = BitVec.ofInt 32 ((c + det * 100 * (c / 138564)) / 80000000000)

/-- R88: "Since `|du| × (C / 138564) ≤ 20000 × C / 138564 < C`, the result C' is positive whenever C is, and it is 0 when
C = 0"; skipping the step at det = 0 "gives the same value as applying it with du = 0". -/
def Obligations.DetuneCorrectionKeepsTheSign : Prop :=
  ∀ (c det : Int), 0 ≤ c → -200 ≤ det → det ≤ 200 →
    dcoDetuned c det = c + (det * 100) * (c / 138564) ∧ (0 < c → 0 < dcoDetuned c det) ∧ dcoDetuned 0 det = 0

/-- R89: without detune the word is q itself exactly when `(1000·f + m) · sm < 5 000 000 000`; at and above the bound it is
q modulo 2^32. -/
def Obligations.DividerWordFitsBelowTheBound : Prop :=
  ∀ (f m : Nat) (sm : SpeedMode),
    let q := (1000 * f + m) * sm.multiplier * 2 ^ 23 / 9765625
    (dcoWord f m sm.multiplier 0).toNat = q % 2 ^ 32 ∧
    ((dcoWord f m sm.multiplier 0).toNat = q ↔ (1000 * f + m) * sm.multiplier < 5000000000)

/-- R90: "Fix sm and take det = 0. If f1 < f2 and `1000·f2·sm < 5·10^9`, then `DcoWord(f1, 0, sm, 0) <
DcoWord(f2, 0, sm, 0)`." -/
def Obligations.DividerWordIsMonotone : Prop :=
  ∀ (f1 f2 : Nat) (sm : SpeedMode), f1 < f2 → 1000 * f2 * sm.multiplier < 5000000000 →
    (dcoWord f1 0 sm.multiplier 0).toNat < (dcoWord f2 0 sm.multiplier 0).toNat

/-! ### The tuning commands -/

/-- R93 (with R92): SET_DCO with milliHz at most 999 makes one access, the divider word of the new frequency under the
stored mode and detune, stores both operands and responds with the word; everything else is unchanged. Above 999 it is
refused with INVALID_ARGUMENT, "nothing is written and there are no events". -/
def Obligations.SetDcoProgramsTheDivider : Prop :=
  ∀ (f m : Word) (s : State),
    (m.toNat ≤ 999 → ∃ (t : State) (w : Word), exec (.setDco f m) s = .next t ∧
      w = dcoWord f.toNat m.toNat s.S.speedMode.multiplier s.S.detune.toInt ∧
      t.trace = s.trace ++ [.write s.cfg.params.regDco w] ∧
      t.S = { s.S with dco := f, dcoMillis := m } ∧
      t.rsp = ⟨rsp0Word .ok s.hid.prepollTimeout 0, w, 0⟩ ∧ t.hid.pendingDco = w ∧
      Untouched s t ∧ NoReads s t ∧ Published t) ∧
    (999 < m.toNat → ∃ t, exec (.setDco f m) s = .next t ∧ Refused .invalidArgument s t)

/-- R94: SET_DETUNE in -200..200 stores the detune, then reprograms the DCO from the stored frequency and millihertz under
it; the other stored fields keep their values. Outside the range it is refused with INVALID_ARGUMENT, without any event. -/
def Obligations.SetDetuneReprogramsTheDivider : Prop :=
  ∀ (d : Int) (s : State),
    (-200 ≤ d → d ≤ 200 → ∃ (t : State) (w : Word), exec (.setDetune d) s = .next t ∧
      w = dcoWord s.S.dco.toNat s.S.dcoMillis.toNat s.S.speedMode.multiplier d ∧
      t.trace = s.trace ++ [.write s.cfg.params.regDco w] ∧ t.S.detune.toInt = d ∧
      t.S = { s.S with detune := t.S.detune } ∧
      t.rsp = ⟨rsp0Word .ok s.hid.prepollTimeout 0, w, 0⟩ ∧ t.hid.pendingDco = w ∧
      Untouched s t ∧ NoReads s t ∧ Published t) ∧
    (d < -200 ∨ 200 < d → ∃ t, exec (.setDetune d) s = .next t ∧ Refused .invalidArgument s t)

/-- R95, R138: SET_CLOCK_SOURCE writes the zero-extended code to REG_CLOCK_SOURCE, stores it, whatever it is, and writes
nothing else. -/
def Obligations.SetClockSourceStoresAnyCode : Prop :=
  ∀ (c : Byte) (s : State),
    ∃ t, exec (.setClockSource c) s = .next t ∧
      t.trace = s.trace ++ [.write s.cfg.params.regClockSource (BitVec.ofNat 32 c.toNat)] ∧
      t.S = { s.S with clockSource := c } ∧
      t.rsp = ⟨rsp0Word .ok s.hid.prepollTimeout 0, BitVec.ofNat 32 c.toNat, 0⟩ ∧
      t.hid.pendingDco = s.hid.pendingDco ∧ Untouched s t ∧ NoReads s t ∧ Published t

/-- R96, R97, R107: GET_DCO, GET_DETUNE and GET_SPEED_MODE respond with the stored field, make no access, write nothing
and cannot fail; the detune as a two's-complement word, the mode as its multiplier. -/
def Obligations.GettersAnswerTheStoredFields : Prop :=
  ∀ (i : Instr) (s : State) (r1 r2 : Word),
    ((i = .getDco ∧ r1 = s.S.dco ∧ r2 = s.S.dcoMillis) ∨
     (i = .getDetune ∧ r1.toInt = s.S.detune.toInt ∧ r2 = 0) ∨
     (i = .getSpeedMode ∧ r1.toNat = s.S.speedMode.multiplier ∧ r2 = 0)) →
    ∃ t, exec i s = .next t ∧ t.rsp = ⟨rsp0Word .ok s.hid.prepollTimeout 0, r1, r2⟩ ∧ t.trace = s.trace ∧
      t.S = s.S ∧ t.hid.pendingDco = s.hid.pendingDco ∧ Untouched s t ∧ NoReads s t ∧ Published t

/-- R98, R99: GET_CLOCK_SOURCE answers the normalized code of the stored code's source (Internal 0, SyncBus 1, InputPort k
1 + k) and the raw code itself; INVALID_STATE where the stored code is outside the map. No access, nothing written. That a
code 1 + k which does not fit 32 bits is cut to them is the model's choice, not R99's (log 12). -/
def Obligations.GetClockSourceNormalizes : Prop :=
  ∀ s : State,
    (∀ src : ClockSource, (s.S.clockSource, src) ∈ s.cfg.params.clockSourceMap → ∃ t, exec .getClockSource s = .next t ∧
      t.rsp.rsp0 = rsp0Word .ok s.hid.prepollTimeout 0 ∧
      t.rsp.rsp1 = (match src with
        | .internal => 0
        | .syncBus => 1
        | .inputPort k => BitVec.ofNat 32 (1 + k)) ∧
      t.rsp.rsp2 = BitVec.ofNat 32 s.S.clockSource.toNat ∧
      t.trace = s.trace ∧ t.S = s.S ∧ t.hid.pendingDco = s.hid.pendingDco ∧
      Untouched s t ∧ NoReads s t ∧ Published t) ∧
    ((∀ src, (s.S.clockSource, src) ∉ s.cfg.params.clockSourceMap) →
      ∃ t, exec .getClockSource s = .next t ∧ Refused .invalidState s t)

/-! ### Speed mode and rate -/

/-- R102, R103: an accepted SET_SPEED_MODE, the current mode's included (R100), writes exactly three registers in this
order, stores the mode, and the divider word uses the new mode and the previous frequency and millihertz. A code that is
not 1, 2 or 4 is refused with INVALID_ARGUMENT, whatever the maximum (R114); one above the maximum with NOOP (R104). -/
def Obligations.SetSpeedModeReprogramsTheDivider : Prop :=
  ∀ (c : Byte) (s : State),
    (∀ m : SpeedMode, c.toNat = m.multiplier → m.multiplier ≤ s.cfg.params.maxSpeedMode.multiplier →
      ∃ (t : State) (w : Word), exec (.setSpeedMode c) s = .next t ∧
      w = dcoWord s.S.dco.toNat s.S.dcoMillis.toNat m.multiplier s.S.detune.toInt ∧
      t.trace = s.trace ++ [.write s.cfg.params.regSpeedClksel s.cfg.params.clkselValue,
        .write s.cfg.params.regSpeedMode (if m = .normal then 1 else 0), .write s.cfg.params.regDco w] ∧
      t.S = { s.S with speedMode := m } ∧
      t.rsp = ⟨rsp0Word .ok s.hid.prepollTimeout 0, w, BitVec.ofNat 32 m.multiplier⟩ ∧ t.hid.pendingDco = w ∧
      Untouched s t ∧ NoReads s t ∧ Published t) ∧
    (c ≠ 1 → c ≠ 2 → c ≠ 4 → ∃ t, exec (.setSpeedMode c) s = .next t ∧ Refused .invalidArgument s t) ∧
    (c = 1 ∨ c = 2 ∨ c = 4 → s.cfg.params.maxSpeedMode.multiplier < c.toNat →
      ∃ t, exec (.setSpeedMode c) s = .next t ∧ Refused .noop s t)

/-- R105: below the first breakpoint Slow, below the second Normal, else Fast; total, and only the three of them. "rate = 0
maps to Slow" where the first breakpoint is not 0 itself (log 16). -/
def Obligations.RateMapFollowsTheBreakpoints : Prop :=
  ∀ (c : Configuration) (rate : Word),
    ((rateMode c.params rate).multiplier = 1 ↔ rate.toNat < c.params.rateBreakNormal) ∧
    ((rateMode c.params rate).multiplier = 2 ↔
      c.params.rateBreakNormal ≤ rate.toNat ∧ rate.toNat < c.params.rateBreakFast) ∧
    ((rateMode c.params rate).multiplier = 4 ↔ c.params.rateBreakFast ≤ rate.toNat) ∧
    (1 ≤ c.params.rateBreakNormal → rateMode c.params 0 = .slow)

/-- R106, R133: an accepted CONFIGURE_RATE makes exactly four writes; the first DCO word is of the old frequency and old
detune under the new mode, the last of the rate itself with 0 millihertz and 0 detune; the detune does not survive. A rate
whose mode is above the maximum is refused with RATE_TOO_HIGH. -/
def Obligations.ConfigureRateReprogramsTwice : Prop :=
  ∀ (rate : Word) (m : SpeedMode) (s : State), rateMode s.cfg.params rate = m →
    (m.multiplier ≤ s.cfg.params.maxSpeedMode.multiplier →
      ∃ (t : State) (w1 w : Word), exec (.configureRate rate) s = .next t ∧
      w1 = dcoWord s.S.dco.toNat s.S.dcoMillis.toNat m.multiplier s.S.detune.toInt ∧
      w = dcoWord rate.toNat 0 m.multiplier 0 ∧
      t.trace = s.trace ++ [.write s.cfg.params.regSpeedClksel s.cfg.params.clkselValue,
        .write s.cfg.params.regSpeedMode (if m = .normal then 1 else 0), .write s.cfg.params.regDco w1,
        .write s.cfg.params.regDco w] ∧
      t.S = { speedMode := m, dco := rate, dcoMillis := 0, detune := 0, clockSource := s.S.clockSource } ∧
      t.rsp = ⟨rsp0Word .ok s.hid.prepollTimeout 0, w, BitVec.ofNat 32 m.multiplier⟩ ∧ t.hid.pendingDco = w ∧
      Untouched s t ∧ NoReads s t ∧ Published t) ∧
    (s.cfg.params.maxSpeedMode.multiplier < m.multiplier →
      ∃ t, exec (.configureRate rate) s = .next t ∧ Refused .rateTooHigh s t)

/-- R108, the source's end-to-end scenario, in every variant it constrains. -/
def Obligations.EndToEndScenario : Prop :=
  ∀ s : State, s.S.speedMode = .slow → s.S.dco = 48000 → s.S.dcoMillis = 0 → s.S.detune = 0 →
    clockSourceMap s.cfg.params s.S.clockSource = some .internal →
    2 ≤ s.cfg.params.maxSpeedMode.multiplier → s.cfg.params.rateBreakNormal ≤ 96000 →
    96000 < s.cfg.params.rateBreakFast → s.hid.prepollTimeout = false →
    ∃ t, exec (.configureRate 96000) s = .next t ∧
      t.trace = s.trace ++ [.write s.cfg.params.regSpeedClksel s.cfg.params.clkselValue,
        .write s.cfg.params.regSpeedMode 0x00000001, .write s.cfg.params.regDco 0x04EA4A8C,
        .write s.cfg.params.regDco 0x09D49518] ∧
      t.S = { speedMode := .normal, dco := 96000, dcoMillis := 0, detune := 0, clockSource := s.S.clockSource } ∧
      t.rsp = ⟨0, 164926744, 2⟩

/-! ### Rules of the whole machine -/

/-- R14, R9, R11 to R13, R110: which command writes which stored field, for every command in every state; and "a non-OK
response always leaves all five stored fields as they were". -/
def Obligations.StoredFieldsHaveTheirWriters : Prop :=
  ∀ (i : Instr) (s : State), ∃ t, exec i s = .next t ∧ (t.rsp.status ≠ 0 → t.S = s.S) ∧
    (match i with
      | .transfer _ _ _ _ => t.S = s.S
      | .measure _ => t.S = s.S
      | .setDco _ _ => t.S = { s.S with dco := t.S.dco, dcoMillis := t.S.dcoMillis }
      | .setDetune _ => t.S = { s.S with detune := t.S.detune }
      | .setClockSource _ => t.S = { s.S with clockSource := t.S.clockSource }
      | .setSpeedMode _ => t.S = { s.S with speedMode := t.S.speedMode }
      | .configureRate _ =>
        t.S = { s.S with
                  speedMode := t.S.speedMode, dco := t.S.dco, dcoMillis := t.S.dcoMillis, detune := t.S.detune }
      | .getDco => t.S = s.S
      | .getDetune => t.S = s.S
      | .getClockSource => t.S = s.S
      | .getSpeedMode => t.S = s.S)

/-- R110, R111, R114: which command ends with which status, and why, in every state; and what a non-OK status leaves: R1 = R2
= 0 and COUNT = 0, no stored field changed, the pre-poll bit as it was found, and no event but for TIMEOUT. -/
def Obligations.ErrorStatusesHaveTheirCauses : Prop :=
  ∀ (i : Instr) (s : State), ∃ t, exec i s = .next t ∧ t.rsp.status.toNat ≤ 5 ∧
    (t.rsp.status = 1 → ∃ cs wbits wdata rbits, i = .transfer cs wbits wdata rbits ∧
      1 ≤ rbits.toNat ∧ rbits.toNat ≤ 32) ∧
    (t.rsp.status = 2 ↔ ∃ c, i = .setSpeedMode c ∧ (c = 1 ∨ c = 2 ∨ c = 4) ∧
      s.cfg.params.maxSpeedMode.multiplier < c.toNat) ∧
    (t.rsp.status = 3 ↔ ∃ r, i = .configureRate r ∧
      s.cfg.params.maxSpeedMode.multiplier < (rateMode s.cfg.params r).multiplier) ∧
    (t.rsp.status = 4 ↔ i = .getClockSource ∧ ∀ src, (s.S.clockSource, src) ∉ s.cfg.params.clockSourceMap) ∧
    (t.rsp.status = 5 ↔ (∃ f m, i = .setDco f m ∧ 999 < m.toNat) ∨
      (∃ d, i = .setDetune d ∧ (d < -200 ∨ 200 < d)) ∨
      (∃ c, i = .setSpeedMode c ∧ c ≠ 1 ∧ c ≠ 2 ∧ c ≠ 4)) ∧
    t.rsp.prepollTimeout = t.hid.prepollTimeout ∧
    (t.rsp.status ≠ 0 → t.rsp.rsp1 = 0 ∧ t.rsp.rsp2 = 0 ∧ t.rsp.count = 0 ∧ t.S = s.S ∧
      (t.rsp.status ≠ 1 → t.trace = s.trace ∧ NoReads s t ∧ t.hid.pendingDco = s.hid.pendingDco))

/-- R8: "Two executions with the same start state, the same command and the same read answers produce the same trace,
response and stored fields." The start state's part that matters is the configuration, the stored fields and the pre-poll
flag: the old response, the old trace, the latch, the poll counter, the pending word and the old packet show nowhere (R29
"never read before written"). 21 given answers are enough for every command. -/
def Obligations.SameAnswersSameCommand : Prop :=
  ∀ (i : Instr) (s1 s2 : State), s1.cfg = s2.cfg → s1.S = s2.S →
    s1.hid.prepollTimeout = s2.hid.prepollTimeout → s1.answers = s2.answers → 21 ≤ s1.answers.length →
    ∃ t1 t2 es, exec i s1 = .next t1 ∧ exec i s2 = .next t2 ∧
      t1.trace = s1.trace ++ es ∧ t2.trace = s2.trace ++ es ∧ t1.rsp = t2.rsp ∧ t1.S = t2.S ∧
      t1.answers = t2.answers

/-- R139: the table of bounds. Every command ends, whatever the device answers, with a number of events in its row. -/
def Obligations.EveryCommandIsBounded : Prop :=
  ∀ (i : Instr) (s : State), ∃ t es, exec i s = .next t ∧ t.trace = s.trace ++ es ∧
    (eventBound i (t.rsp.status == 0)).1 ≤ es.length ∧ es.length ≤ (eventBound i (t.rsp.status == 0)).2 ∧
    (∀ idx, i = .measure idx → t.rsp.status = 0 ∧ (t.rsp.rsp1 = 0 → es.length = 11) ∧
      (t.rsp.rsp1 ≠ 0 → es.length ≤ 10)) ∧
    Published t ∧ Untouched s t

/-- R15, first sentence: a command that writes REG_DCO ends with REG_DCO's last written word equal to the divider word of
the stored fields as they stand at its end; refused, it writes nothing. And no other command writes REG_DCO, where no other
register shares its offset. -/
def Obligations.DcoWritersLeaveAgreement : Prop :=
  ∀ (i : Instr) (s : State), ∃ t es, exec i s = .next t ∧ t.trace = s.trace ++ es ∧
    (writesDco i = true → (t.rsp.status = 0 → DcoAgrees t) ∧ (t.rsp.status ≠ 0 → es = [])) ∧
    (writesDco i = false → dcoOffsetAlone s.cfg.params = true → lastWrite s.cfg.params.regDco es = none)

/-- R15: "once one of them has completed, REG_DCO always reflects the last committed (freq, millis, detune, speedmode)
tuple": every step between commands keeps the agreement, whatever packet is offered. -/
def Obligations.StepKeepsDcoAgreement : Prop :=
  ∀ s : State, dcoOffsetAlone s.cfg.params = true → s.resetIn = none → s.busy = false → DcoAgrees s →
    ∃ t, step s = .next t ∧ DcoAgrees t ∧ t.busy = false ∧ t.resetIn = none ∧ t.cfg = s.cfg

/-- The invariant holds right after reset, under every configuration (R29). -/
def Obligations.InvariantHoldsAtReset : Prop :=
  ∀ c : Configuration, Coherent (State.resetWith c) = true

/-- R10, R12, R16, R59, R109, R110: every step of a coherent machine answers a next state, never a stop, and keeps the
invariant: the mode within the variant's maximum, the millihertz and the detune in range, the response words well-formed,
the handshake coherent. -/
def Obligations.StepKeepsTheInvariant : Prop :=
  ∀ s : State, Coherent s = true → ∃ t, step s = .next t ∧ Coherent t = true ∧ t.cfg = s.cfg

/-- The same for every single transition of engine and host, so for every moment at which a reset can arrive or the host
can look (R45, R128). -/
def Obligations.TransitionKeepsTheInvariant : Prop :=
  ∀ s : State, Coherent s = true → Coherent (advance s) = true ∧ Coherent (applyReset s) = true

/-- R141: "A run always ends, because every command is bounded": every list of offered packets is worked off, one step a
packet (and one for a command in progress), to an idle engine with every packet taken. -/
def Obligations.EveryRunEnds : Prop :=
  ∀ s : State, Coherent s = true → s.resetIn = none →
    ∃ t, Host.Core.run Sys2Proof.core (s.offers.length + 1) s = .next t ∧ t.offers = [] ∧ t.busy = false ∧
      Coherent t = true ∧ (∃ es, t.trace = s.trace ++ es)

/-- R59, R60, R61: the fields of a published RSP0 are the status, the flag and the count it was made of, and every other
bit is 0. -/
def Obligations.ResponseWordHasItsFields : Prop :=
  ∀ (e : Status) (b : Bool) (n : Nat) (r1 r2 : Word) (s : State), n ≤ 4 → s.hid.prepollTimeout = b →
    (respond e r1 r2 n s).rsp.status.toNat =
        (match e with
          | .ok => 0
          | .timeout => 1
          | .noop => 2
          | .rateTooHigh => 3
          | .invalidState => 4
          | .invalidArgument => 5
          | .illegalCommand => 6) ∧
      (respond e r1 r2 n s).rsp.prepollTimeout = b ∧ (respond e r1 r2 n s).rsp.count.toNat = n ∧
      (respond e r1 r2 n s).rsp.rsp0 &&& 0xFFF8FEF0 = 0 ∧ (respond e r1 r2 n s).rsp.rsp1 = r1 ∧
      (respond e r1 r2 n s).rsp.rsp2 = r2

/-! ### Reset and boot -/

/-- R126, R127, R29: whenever it arrives, reset puts every stored field, the handshake and the response words at their
reset values as one step, makes no downstream access (R127), and leaves the engine idle; what was recorded before stands
(R128). That the packets the host still holds survive it (`t.offers`) is the model's reading (log 10), no rule's words. -/
def Obligations.ResetRestoresTheEngine : Prop :=
  ∀ (s : State) (k : Nat), s.resetIn = some k →
    ∃ t, step s = .next t ∧ t.S.speedMode.multiplier = 1 ∧ t.S.dco = s.cfg.params.resetDcoHz ∧ t.S.dcoMillis = 0 ∧
      t.S.detune = 0 ∧ t.S.clockSource = s.cfg.params.resetClockSource ∧ t.busy = false ∧ t.done = false ∧
      t.rsp = ⟨0, 0, 0⟩ ∧ t.trace = (advanceRun k s).trace ∧ s.trace <+: t.trace ∧ t.cfg = s.cfg ∧ t.resetIn = none ∧
      t.offers = (advanceRun k s).offers ∧ responseValid t = false

/-- R128: a reset that arrives while a command runs. "No further micro-operation of it is performed; every access it
already performed stands, and none is undone; its response is never published; its writes to stored fields are replaced by
the reset values; the engine is idle afterwards." That the packets the host still holds survive it (`t.offers`) is the
model's reading (log 10), no rule's words. -/
def Obligations.ResetAbandonsTheCommand : Prop :=
  ∀ (s : State) (k : Nat), Coherent s = true → s.busy = true → s.resetIn = some k → (microRun k s).busy = true →
    ∃ t, step s = .next t ∧ t.trace = (microRun k s).trace ∧ s.trace <+: t.trace ∧ t.trace <+: (finish s).trace ∧
      t.S = Stored.atReset s.cfg ∧ t.rsp = ⟨0, 0, 0⟩ ∧ t.done = false ∧ t.busy = false ∧ t.hid.seq = .idle ∧
      t.resetIn = none ∧ t.cfg = s.cfg ∧ t.offers = s.offers

/-- R31, R129 step 1: a configuration that meets the constraints of R4 and R37 boots to the reset state under it, and one
that breaks a constraint is refused rather than given a meaning. The two clauses on the clock-source map (no code twice, a
port number in 1 to N) are the model's form of R4's "partial map" and R99's range of k, and their refusal is its choice
(log 12). -/
def Obligations.IllFormedConfigurationIsRefused : Prop :=
  ∀ p : Params,
    let admissible : Prop :=
      p.windowSize % 4 = 0 ∧ (∀ o ∈ p.offsets, o % 4 = 0 ∧ o < p.windowSize) ∧
      (∀ o ∈ p.busOffsets, o ≠ p.regMeasSelect ∧ o ≠ p.regMeas) ∧
      p.busReadyValue &&& ~~~p.busReadyMask = 0 ∧ p.rateBreakNormal < p.rateBreakFast ∧
      (p.clockSourceMap.map Prod.fst).Nodup ∧
      (∀ c k, (c, ClockSource.inputPort k) ∈ p.clockSourceMap → 1 ≤ k ∧ k ≤ p.inputPorts)
    (admissible → ∃ t, boot p = .next t ∧ t.cfg.params = p ∧ t = State.resetWith t.cfg) ∧
    (¬ admissible → boot p = .refused .illFormedConfiguration)
end

