-- ==== Sys2Proof/Laws/Decode.lean ====
section
/-! SUPPORT. The decoder opcode by opcode (spec/30_encoding.md R49 to R58): what each opcode decodes to, and that nothing
else decodes. -/

namespace Sys2Proof.Laws

open Sys2Proof Sys2Proof.Machine

theorem decode_opc_1 {p : Packet} (h : p.opc = 0x1) : decode p = .ok (.transfer p.cs p.wbits p.w2 p.rbits) := by
  simp [decode, h]
theorem decode_opc_2 {p : Packet} (h : p.opc = 0x2) : decode p = .ok (.measure p.w1) := by simp [decode, h]
theorem decode_opc_3 {p : Packet} (h : p.opc = 0x3) : decode p = .ok (.setDco p.w1 p.w2) := by simp [decode, h]
theorem decode_opc_4 {p : Packet} (h : p.opc = 0x4) : decode p = .ok (.setDetune p.detune) := by simp [decode, h]
theorem decode_opc_5 {p : Packet} (h : p.opc = 0x5) : decode p = .ok (.setClockSource p.code) := by
  simp [decode, h]
theorem decode_opc_6 {p : Packet} (h : p.opc = 0x6) : decode p = .ok (.setSpeedMode p.code) := by simp [decode, h]
theorem decode_opc_7 {p : Packet} (h : p.opc = 0x7) : decode p = .ok (.configureRate p.w1) := by simp [decode, h]
theorem decode_opc_8 {p : Packet} (h : p.opc = 0x8) : decode p = .ok .getDco := by simp [decode, h]
theorem decode_opc_9 {p : Packet} (h : p.opc = 0x9) : decode p = .ok .getDetune := by simp [decode, h]
theorem decode_opc_A {p : Packet} (h : p.opc = 0xA) : decode p = .ok .getClockSource := by simp [decode, h]
theorem decode_opc_B {p : Packet} (h : p.opc = 0xB) : decode p = .ok .getSpeedMode := by simp [decode, h]

/-- A four-bit value is one of sixteen. -/
theorem opc_cases (o : BitVec 4) :
    o = 0x0 ∨ o = 0x1 ∨ o = 0x2 ∨ o = 0x3 ∨ o = 0x4 ∨ o = 0x5 ∨ o = 0x6 ∨ o = 0x7 ∨ o = 0x8 ∨ o = 0x9 ∨ o = 0xA ∨
      o = 0xB ∨ o = 0xC ∨ o = 0xD ∨ o = 0xE ∨ o = 0xF := by
  revert o
  decide

/-- The reserved opcodes decode to no command (R58). -/
theorem decode_reserved {p : Packet}
    (h : p.opc = 0x0 ∨ p.opc = 0xC ∨ p.opc = 0xD ∨ p.opc = 0xE ∨ p.opc = 0xF) :
    decode p = .error (.reservedOpcode p.opc) := by
  rcases h with h | h | h | h | h <;> simp [decode, h]

/-- Every packet decodes to the command of its opcode, with the operands of its fields, or is reserved. -/
theorem decode_cases (p : Packet) :
    (p.opc = 0x1 ∧ decode p = .ok (.transfer p.cs p.wbits p.w2 p.rbits)) ∨
    (p.opc = 0x2 ∧ decode p = .ok (.measure p.w1)) ∨
    (p.opc = 0x3 ∧ decode p = .ok (.setDco p.w1 p.w2)) ∨
    (p.opc = 0x4 ∧ decode p = .ok (.setDetune p.detune)) ∨
    (p.opc = 0x5 ∧ decode p = .ok (.setClockSource p.code)) ∨
    (p.opc = 0x6 ∧ decode p = .ok (.setSpeedMode p.code)) ∨
    (p.opc = 0x7 ∧ decode p = .ok (.configureRate p.w1)) ∨
    (p.opc = 0x8 ∧ decode p = .ok .getDco) ∨
    (p.opc = 0x9 ∧ decode p = .ok .getDetune) ∨
    (p.opc = 0xA ∧ decode p = .ok .getClockSource) ∨
    (p.opc = 0xB ∧ decode p = .ok .getSpeedMode) ∨
    ((p.opc = 0x0 ∨ p.opc = 0xC ∨ p.opc = 0xD ∨ p.opc = 0xE ∨ p.opc = 0xF) ∧
      decode p = .error (.reservedOpcode p.opc)) := by
  rcases opc_cases p.opc with h | h | h | h | h | h | h | h | h | h | h | h | h | h | h | h <;>
    simp [decode, h]

/-! ### The words of an encoding as numbers -/

/-- The number of two fields laid one after the other. -/
theorem append_toNat {n m : Nat} (a : BitVec n) (b : BitVec m) : (a ++ b).toNat = a.toNat * 2 ^ m + b.toNat := by
  rw [BitVec.toNat_append, ← Nat.shiftLeft_add_eq_or_of_lt b.isLt, Nat.shiftLeft_eq]

/-- W0 as R62's table writes it: `(cs << 16) | OPC`. -/
theorem header_toNat (cs : Half) (opc : BitVec 4) : (header cs opc).toNat = cs.toNat * 65536 + opc.toNat := by
  have low := append_toNat 0#12 opc
  have whole := append_toNat cs (0#12 ++ opc)
  rw [low] at whole
  exact whole.trans (by simp)

/-- TRANSFER's W1: `(rbits << 16) | wbits`. -/
theorem counts_toNat (rbits wbits : Half) :
    BitVec.toNat (w := 32) (rbits ++ wbits) = rbits.toNat * 65536 + wbits.toNat := append_toNat rbits wbits

/-- A 16-bit operand in W1[15:0]. -/
theorem half_toNat (v : Half) : BitVec.toNat (w := 32) (0#16 ++ v) = v.toNat :=
  (append_toNat 0#16 v).trans (by simp)

/-- An 8-bit operand in W1[7:0]. -/
theorem byte_toNat (v : Byte) : BitVec.toNat (w := 32) (0#24 ++ v) = v.toNat :=
  (append_toNat 0#24 v).trans (by simp)

/-- What `wrapI16` gives: the 16-bit signed value congruent to its argument, so the argument itself where it is one. -/
theorem wrapI16_spec (c : Int) :
    -32768 ≤ wrapI16 c ∧ wrapI16 c ≤ 32767 ∧ (65536 : Int) ∣ wrapI16 c - c ∧
      (-32768 ≤ c → c ≤ 32767 → wrapI16 c = c) := by
  unfold wrapI16
  rw [BitVec.toInt_ofInt, Int.bmod]
  split <;> omega

end Sys2Proof.Laws
end

