-- ==== Sys2Proof/Laws/PerInstr.lean ====
section
/-! SUPPORT. What is stated of every command, one lemma per constructor of Instr: its encoding carries its own opcode,
which is none of the reserved ones, and leaves W0[15:4] 0 (spec/30_encoding.md R48, R49, R58, R62). -/

namespace Sys2Proof.Laws

open Sys2Proof

/-- The first word of every encoding: the opcode in bits 3:0, zeros in bits 15:4, the chip-select above. -/
theorem header_fields (cs : Half) (opc : BitVec 4) :
    (header cs opc).extractLsb' 0 4 = opc ∧ (header cs opc).extractLsb' 4 12 = 0#12 ∧
      (header cs opc).extractLsb' 16 16 = cs := by
  refine ⟨?_, ?_, ?_⟩
  all_goals
    apply BitVec.eq_of_getLsbD_eq
    intro i hi
    simp only [header, BitVec.getLsbD_extractLsb', BitVec.getLsbD_append]
    simp [hi]
  · intros; omega
  · intros; omega

/-- Every command's opcode is one of R49's eleven. -/
theorem opcode_named (i : Instr) : 1 ≤ (opcodeOf i).toNat ∧ (opcodeOf i).toNat ≤ 11 := by
  cases i <;> simp [opcodeOf]

namespace EncodeOpcode

/-- The encoding of `i` has `i`'s opcode, one of the eleven of R49, and W0[15:4] is 0. -/
def Statement (i : Instr) : Prop :=
  (encode i).opc = opcodeOf i ∧ 1 ≤ (opcodeOf i).toNat ∧ (opcodeOf i).toNat ≤ 11 ∧
    (encode i).w0.extractLsb' 4 12 = 0#12

theorem transfer (cs wbits : Half) (wdata : Word) (rbits : Half) : Statement (.transfer cs wbits wdata rbits) :=
  ⟨(header_fields cs _).1, (opcode_named _).1, (opcode_named _).2, (header_fields cs _).2.1⟩
theorem measure (sourceIndex : Word) : Statement (.measure sourceIndex) :=
  ⟨(header_fields 0 _).1, (opcode_named _).1, (opcode_named _).2, (header_fields 0 _).2.1⟩
theorem setDco (freqHz milliHz : Word) : Statement (.setDco freqHz milliHz) :=
  ⟨(header_fields 0 _).1, (opcode_named _).1, (opcode_named _).2, (header_fields 0 _).2.1⟩
theorem setDetune (detune : Int) : Statement (.setDetune detune) :=
  ⟨(header_fields 0 _).1, (opcode_named _).1, (opcode_named _).2, (header_fields 0 _).2.1⟩
theorem setClockSource (code : Byte) : Statement (.setClockSource code) :=
  ⟨(header_fields 0 _).1, (opcode_named _).1, (opcode_named _).2, (header_fields 0 _).2.1⟩
theorem setSpeedMode (requested : Byte) : Statement (.setSpeedMode requested) :=
  ⟨(header_fields 0 _).1, (opcode_named _).1, (opcode_named _).2, (header_fields 0 _).2.1⟩
theorem configureRate (rate : Word) : Statement (.configureRate rate) :=
  ⟨(header_fields 0 _).1, (opcode_named _).1, (opcode_named _).2, (header_fields 0 _).2.1⟩
theorem getDco : Statement .getDco :=
  ⟨(header_fields 0 _).1, (opcode_named _).1, (opcode_named _).2, (header_fields 0 _).2.1⟩
theorem getDetune : Statement .getDetune :=
  ⟨(header_fields 0 _).1, (opcode_named _).1, (opcode_named _).2, (header_fields 0 _).2.1⟩
theorem getClockSource : Statement .getClockSource :=
  ⟨(header_fields 0 _).1, (opcode_named _).1, (opcode_named _).2, (header_fields 0 _).2.1⟩
theorem getSpeedMode : Statement .getSpeedMode :=
  ⟨(header_fields 0 _).1, (opcode_named _).1, (opcode_named _).2, (header_fields 0 _).2.1⟩

end EncodeOpcode
end Sys2Proof.Laws
end

