-- ==== Sys2Proof/Laws/State.lean ====
section
/-! SUPPORT. What each named operation does to each field of State, one lemma per field, true by rfl; later proofs cite
these (as simp lemmas) and unfold no record update. A hid lemma's proof stands in parentheses, so that simp rewrites with
it and leaves the kernel no comparison of whole hidden states (one would compute a divider word). -/

namespace Sys2Proof.Laws

open Sys2Proof Sys2Proof.Machine

/-! #### record -/

@[simp] theorem record_cfg (e : Event) (s : State) :
    (s.record e).cfg = s.cfg := rfl
@[simp] theorem record_S (e : Event) (s : State) :
    (s.record e).S = s.S := rfl
@[simp] theorem record_busy (e : Event) (s : State) :
    (s.record e).busy = s.busy := rfl
@[simp] theorem record_done (e : Event) (s : State) :
    (s.record e).done = s.done := rfl
@[simp] theorem record_rsp (e : Event) (s : State) :
    (s.record e).rsp = s.rsp := rfl
@[simp] theorem record_hid (e : Event) (s : State) :
    (s.record e).hid = s.hid := (rfl)
@[simp] theorem record_trace (e : Event) (s : State) :
    (s.record e).trace = s.trace ++ [e] := rfl
@[simp] theorem record_answers (e : Event) (s : State) :
    (s.record e).answers = s.answers := rfl
@[simp] theorem record_draws (e : Event) (s : State) :
    (s.record e).draws = s.draws := rfl
@[simp] theorem record_offers (e : Event) (s : State) :
    (s.record e).offers = s.offers := rfl
@[simp] theorem record_resetIn (e : Event) (s : State) :
    (s.record e).resetIn = s.resetIn := rfl

/-! #### goto -/

@[simp] theorem goto_cfg (p : Pos) (s : State) :
    (s.goto p).cfg = s.cfg := rfl
@[simp] theorem goto_S (p : Pos) (s : State) :
    (s.goto p).S = s.S := rfl
@[simp] theorem goto_busy (p : Pos) (s : State) :
    (s.goto p).busy = s.busy := rfl
@[simp] theorem goto_done (p : Pos) (s : State) :
    (s.goto p).done = s.done := rfl
@[simp] theorem goto_rsp (p : Pos) (s : State) :
    (s.goto p).rsp = s.rsp := rfl
@[simp] theorem goto_hid (p : Pos) (s : State) :
    (s.goto p).hid = { s.hid with seq := p } := (rfl)
@[simp] theorem goto_trace (p : Pos) (s : State) :
    (s.goto p).trace = s.trace := rfl
@[simp] theorem goto_answers (p : Pos) (s : State) :
    (s.goto p).answers = s.answers := rfl
@[simp] theorem goto_draws (p : Pos) (s : State) :
    (s.goto p).draws = s.draws := rfl
@[simp] theorem goto_offers (p : Pos) (s : State) :
    (s.goto p).offers = s.offers := rfl
@[simp] theorem goto_resetIn (p : Pos) (s : State) :
    (s.goto p).resetIn = s.resetIn := rfl

/-! #### setTries -/

@[simp] theorem setTries_cfg (n : Nat) (s : State) :
    (s.setTries n).cfg = s.cfg := rfl
@[simp] theorem setTries_S (n : Nat) (s : State) :
    (s.setTries n).S = s.S := rfl
@[simp] theorem setTries_busy (n : Nat) (s : State) :
    (s.setTries n).busy = s.busy := rfl
@[simp] theorem setTries_done (n : Nat) (s : State) :
    (s.setTries n).done = s.done := rfl
@[simp] theorem setTries_rsp (n : Nat) (s : State) :
    (s.setTries n).rsp = s.rsp := rfl
@[simp] theorem setTries_hid (n : Nat) (s : State) :
    (s.setTries n).hid = { s.hid with tries := n } := (rfl)
@[simp] theorem setTries_trace (n : Nat) (s : State) :
    (s.setTries n).trace = s.trace := rfl
@[simp] theorem setTries_answers (n : Nat) (s : State) :
    (s.setTries n).answers = s.answers := rfl
@[simp] theorem setTries_draws (n : Nat) (s : State) :
    (s.setTries n).draws = s.draws := rfl
@[simp] theorem setTries_offers (n : Nat) (s : State) :
    (s.setTries n).offers = s.offers := rfl
@[simp] theorem setTries_resetIn (n : Nat) (s : State) :
    (s.setTries n).resetIn = s.resetIn := rfl

/-! #### flagPrepollTimeout -/

@[simp] theorem flagPrepollTimeout_cfg (s : State) :
    s.flagPrepollTimeout.cfg = s.cfg := rfl
@[simp] theorem flagPrepollTimeout_S (s : State) :
    s.flagPrepollTimeout.S = s.S := rfl
@[simp] theorem flagPrepollTimeout_busy (s : State) :
    s.flagPrepollTimeout.busy = s.busy := rfl
@[simp] theorem flagPrepollTimeout_done (s : State) :
    s.flagPrepollTimeout.done = s.done := rfl
@[simp] theorem flagPrepollTimeout_rsp (s : State) :
    s.flagPrepollTimeout.rsp = s.rsp := rfl
@[simp] theorem flagPrepollTimeout_hid (s : State) :
    s.flagPrepollTimeout.hid = { s.hid with prepollTimeout := true } := (rfl)
@[simp] theorem flagPrepollTimeout_trace (s : State) :
    s.flagPrepollTimeout.trace = s.trace := rfl
@[simp] theorem flagPrepollTimeout_answers (s : State) :
    s.flagPrepollTimeout.answers = s.answers := rfl
@[simp] theorem flagPrepollTimeout_draws (s : State) :
    s.flagPrepollTimeout.draws = s.draws := rfl
@[simp] theorem flagPrepollTimeout_offers (s : State) :
    s.flagPrepollTimeout.offers = s.offers := rfl
@[simp] theorem flagPrepollTimeout_resetIn (s : State) :
    s.flagPrepollTimeout.resetIn = s.resetIn := rfl

/-! #### setPendingDco -/

@[simp] theorem setPendingDco_cfg (w : Word) (s : State) :
    (s.setPendingDco w).cfg = s.cfg := rfl
@[simp] theorem setPendingDco_S (w : Word) (s : State) :
    (s.setPendingDco w).S = s.S := rfl
@[simp] theorem setPendingDco_busy (w : Word) (s : State) :
    (s.setPendingDco w).busy = s.busy := rfl
@[simp] theorem setPendingDco_done (w : Word) (s : State) :
    (s.setPendingDco w).done = s.done := rfl
@[simp] theorem setPendingDco_rsp (w : Word) (s : State) :
    (s.setPendingDco w).rsp = s.rsp := rfl
@[simp] theorem setPendingDco_hid (w : Word) (s : State) :
    (s.setPendingDco w).hid = { s.hid with pendingDco := w } := (rfl)
@[simp] theorem setPendingDco_trace (w : Word) (s : State) :
    (s.setPendingDco w).trace = s.trace := rfl
@[simp] theorem setPendingDco_answers (w : Word) (s : State) :
    (s.setPendingDco w).answers = s.answers := rfl
@[simp] theorem setPendingDco_draws (w : Word) (s : State) :
    (s.setPendingDco w).draws = s.draws := rfl
@[simp] theorem setPendingDco_offers (w : Word) (s : State) :
    (s.setPendingDco w).offers = s.offers := rfl
@[simp] theorem setPendingDco_resetIn (w : Word) (s : State) :
    (s.setPendingDco w).resetIn = s.resetIn := rfl

/-! #### commitDco -/

@[simp] theorem commitDco_cfg (f m : Word) (s : State) :
    (s.commitDco f m).cfg = s.cfg := rfl
@[simp] theorem commitDco_S (f m : Word) (s : State) :
    (s.commitDco f m).S = { s.S with dco := f, dcoMillis := m } := rfl
@[simp] theorem commitDco_busy (f m : Word) (s : State) :
    (s.commitDco f m).busy = s.busy := rfl
@[simp] theorem commitDco_done (f m : Word) (s : State) :
    (s.commitDco f m).done = s.done := rfl
@[simp] theorem commitDco_rsp (f m : Word) (s : State) :
    (s.commitDco f m).rsp = s.rsp := rfl
@[simp] theorem commitDco_hid (f m : Word) (s : State) :
    (s.commitDco f m).hid = s.hid := (rfl)
@[simp] theorem commitDco_trace (f m : Word) (s : State) :
    (s.commitDco f m).trace = s.trace := rfl
@[simp] theorem commitDco_answers (f m : Word) (s : State) :
    (s.commitDco f m).answers = s.answers := rfl
@[simp] theorem commitDco_draws (f m : Word) (s : State) :
    (s.commitDco f m).draws = s.draws := rfl
@[simp] theorem commitDco_offers (f m : Word) (s : State) :
    (s.commitDco f m).offers = s.offers := rfl
@[simp] theorem commitDco_resetIn (f m : Word) (s : State) :
    (s.commitDco f m).resetIn = s.resetIn := rfl

/-! #### commitDetune -/

@[simp] theorem commitDetune_cfg (d : Half) (s : State) :
    (s.commitDetune d).cfg = s.cfg := rfl
@[simp] theorem commitDetune_S (d : Half) (s : State) :
    (s.commitDetune d).S = { s.S with detune := d } := rfl
@[simp] theorem commitDetune_busy (d : Half) (s : State) :
    (s.commitDetune d).busy = s.busy := rfl
@[simp] theorem commitDetune_done (d : Half) (s : State) :
    (s.commitDetune d).done = s.done := rfl
@[simp] theorem commitDetune_rsp (d : Half) (s : State) :
    (s.commitDetune d).rsp = s.rsp := rfl
@[simp] theorem commitDetune_hid (d : Half) (s : State) :
    (s.commitDetune d).hid = s.hid := (rfl)
@[simp] theorem commitDetune_trace (d : Half) (s : State) :
    (s.commitDetune d).trace = s.trace := rfl
@[simp] theorem commitDetune_answers (d : Half) (s : State) :
    (s.commitDetune d).answers = s.answers := rfl
@[simp] theorem commitDetune_draws (d : Half) (s : State) :
    (s.commitDetune d).draws = s.draws := rfl
@[simp] theorem commitDetune_offers (d : Half) (s : State) :
    (s.commitDetune d).offers = s.offers := rfl
@[simp] theorem commitDetune_resetIn (d : Half) (s : State) :
    (s.commitDetune d).resetIn = s.resetIn := rfl

/-! #### commitClockSource -/

@[simp] theorem commitClockSource_cfg (c : Byte) (s : State) :
    (s.commitClockSource c).cfg = s.cfg := rfl
@[simp] theorem commitClockSource_S (c : Byte) (s : State) :
    (s.commitClockSource c).S = { s.S with clockSource := c } := rfl
@[simp] theorem commitClockSource_busy (c : Byte) (s : State) :
    (s.commitClockSource c).busy = s.busy := rfl
@[simp] theorem commitClockSource_done (c : Byte) (s : State) :
    (s.commitClockSource c).done = s.done := rfl
@[simp] theorem commitClockSource_rsp (c : Byte) (s : State) :
    (s.commitClockSource c).rsp = s.rsp := rfl
@[simp] theorem commitClockSource_hid (c : Byte) (s : State) :
    (s.commitClockSource c).hid = s.hid := (rfl)
@[simp] theorem commitClockSource_trace (c : Byte) (s : State) :
    (s.commitClockSource c).trace = s.trace := rfl
@[simp] theorem commitClockSource_answers (c : Byte) (s : State) :
    (s.commitClockSource c).answers = s.answers := rfl
@[simp] theorem commitClockSource_draws (c : Byte) (s : State) :
    (s.commitClockSource c).draws = s.draws := rfl
@[simp] theorem commitClockSource_offers (c : Byte) (s : State) :
    (s.commitClockSource c).offers = s.offers := rfl
@[simp] theorem commitClockSource_resetIn (c : Byte) (s : State) :
    (s.commitClockSource c).resetIn = s.resetIn := rfl

/-! #### commitSpeedMode -/

@[simp] theorem commitSpeedMode_cfg (m : SpeedMode) (s : State) :
    (s.commitSpeedMode m).cfg = s.cfg := rfl
@[simp] theorem commitSpeedMode_S (m : SpeedMode) (s : State) :
    (s.commitSpeedMode m).S = { s.S with speedMode := m } := rfl
@[simp] theorem commitSpeedMode_busy (m : SpeedMode) (s : State) :
    (s.commitSpeedMode m).busy = s.busy := rfl
@[simp] theorem commitSpeedMode_done (m : SpeedMode) (s : State) :
    (s.commitSpeedMode m).done = s.done := rfl
@[simp] theorem commitSpeedMode_rsp (m : SpeedMode) (s : State) :
    (s.commitSpeedMode m).rsp = s.rsp := rfl
@[simp] theorem commitSpeedMode_hid (m : SpeedMode) (s : State) :
    (s.commitSpeedMode m).hid = s.hid := (rfl)
@[simp] theorem commitSpeedMode_trace (m : SpeedMode) (s : State) :
    (s.commitSpeedMode m).trace = s.trace := rfl
@[simp] theorem commitSpeedMode_answers (m : SpeedMode) (s : State) :
    (s.commitSpeedMode m).answers = s.answers := rfl
@[simp] theorem commitSpeedMode_draws (m : SpeedMode) (s : State) :
    (s.commitSpeedMode m).draws = s.draws := rfl
@[simp] theorem commitSpeedMode_offers (m : SpeedMode) (s : State) :
    (s.commitSpeedMode m).offers = s.offers := rfl
@[simp] theorem commitSpeedMode_resetIn (m : SpeedMode) (s : State) :
    (s.commitSpeedMode m).resetIn = s.resetIn := rfl

/-! #### delay -/

@[simp] theorem delay_cfg (s : State) :
    (delay s).cfg = s.cfg := rfl
@[simp] theorem delay_S (s : State) :
    (delay s).S = s.S := rfl
@[simp] theorem delay_busy (s : State) :
    (delay s).busy = s.busy := rfl
@[simp] theorem delay_done (s : State) :
    (delay s).done = s.done := rfl
@[simp] theorem delay_rsp (s : State) :
    (delay s).rsp = s.rsp := rfl
@[simp] theorem delay_hid (s : State) :
    (delay s).hid = s.hid := (rfl)
@[simp] theorem delay_trace (s : State) :
    (delay s).trace = s.trace ++ [.delay] := rfl
@[simp] theorem delay_answers (s : State) :
    (delay s).answers = s.answers := rfl
@[simp] theorem delay_draws (s : State) :
    (delay s).draws = s.draws := rfl
@[simp] theorem delay_offers (s : State) :
    (delay s).offers = s.offers := rfl
@[simp] theorem delay_resetIn (s : State) :
    (delay s).resetIn = s.resetIn := rfl

/-! #### diag -/

@[simp] theorem diag_cfg (g : DiagTag) (s : State) :
    (diag g s).cfg = s.cfg := rfl
@[simp] theorem diag_S (g : DiagTag) (s : State) :
    (diag g s).S = s.S := rfl
@[simp] theorem diag_busy (g : DiagTag) (s : State) :
    (diag g s).busy = s.busy := rfl
@[simp] theorem diag_done (g : DiagTag) (s : State) :
    (diag g s).done = s.done := rfl
@[simp] theorem diag_rsp (g : DiagTag) (s : State) :
    (diag g s).rsp = s.rsp := rfl
@[simp] theorem diag_hid (g : DiagTag) (s : State) :
    (diag g s).hid = s.hid := (rfl)
@[simp] theorem diag_trace (g : DiagTag) (s : State) :
    (diag g s).trace = s.trace ++ [.log g] := rfl
@[simp] theorem diag_answers (g : DiagTag) (s : State) :
    (diag g s).answers = s.answers := rfl
@[simp] theorem diag_draws (g : DiagTag) (s : State) :
    (diag g s).draws = s.draws := rfl
@[simp] theorem diag_offers (g : DiagTag) (s : State) :
    (diag g s).offers = s.offers := rfl
@[simp] theorem diag_resetIn (g : DiagTag) (s : State) :
    (diag g s).resetIn = s.resetIn := rfl

/-! #### portWrite -/

@[simp] theorem portWrite_cfg (off : Nat) (v : Word) (s : State) :
    (portWrite off v s).cfg = s.cfg := rfl
@[simp] theorem portWrite_S (off : Nat) (v : Word) (s : State) :
    (portWrite off v s).S = s.S := rfl
@[simp] theorem portWrite_busy (off : Nat) (v : Word) (s : State) :
    (portWrite off v s).busy = s.busy := rfl
@[simp] theorem portWrite_done (off : Nat) (v : Word) (s : State) :
    (portWrite off v s).done = s.done := rfl
@[simp] theorem portWrite_rsp (off : Nat) (v : Word) (s : State) :
    (portWrite off v s).rsp = s.rsp := rfl
@[simp] theorem portWrite_hid (off : Nat) (v : Word) (s : State) :
    (portWrite off v s).hid = s.hid := (rfl)
@[simp] theorem portWrite_trace (off : Nat) (v : Word) (s : State) :
    (portWrite off v s).trace = s.trace ++ [.write off v] := rfl
@[simp] theorem portWrite_answers (off : Nat) (v : Word) (s : State) :
    (portWrite off v s).answers = s.answers := rfl
@[simp] theorem portWrite_draws (off : Nat) (v : Word) (s : State) :
    (portWrite off v s).draws = s.draws := rfl
@[simp] theorem portWrite_offers (off : Nat) (v : Word) (s : State) :
    (portWrite off v s).offers = s.offers := rfl
@[simp] theorem portWrite_resetIn (off : Nat) (v : Word) (s : State) :
    (portWrite off v s).resetIn = s.resetIn := rfl

/-! #### regWrite -/

@[simp] theorem regWrite_cfg (r : DevReg) (v : Word) (s : State) :
    (regWrite r v s).cfg = s.cfg := rfl
@[simp] theorem regWrite_S (r : DevReg) (v : Word) (s : State) :
    (regWrite r v s).S = s.S := rfl
@[simp] theorem regWrite_busy (r : DevReg) (v : Word) (s : State) :
    (regWrite r v s).busy = s.busy := rfl
@[simp] theorem regWrite_done (r : DevReg) (v : Word) (s : State) :
    (regWrite r v s).done = s.done := rfl
@[simp] theorem regWrite_rsp (r : DevReg) (v : Word) (s : State) :
    (regWrite r v s).rsp = s.rsp := rfl
@[simp] theorem regWrite_hid (r : DevReg) (v : Word) (s : State) :
    (regWrite r v s).hid = s.hid := (rfl)
@[simp] theorem regWrite_trace (r : DevReg) (v : Word) (s : State) :
    (regWrite r v s).trace = s.trace ++ [.write (s.cfg.params.offset r) v] := rfl
@[simp] theorem regWrite_answers (r : DevReg) (v : Word) (s : State) :
    (regWrite r v s).answers = s.answers := rfl
@[simp] theorem regWrite_draws (r : DevReg) (v : Word) (s : State) :
    (regWrite r v s).draws = s.draws := rfl
@[simp] theorem regWrite_offers (r : DevReg) (v : Word) (s : State) :
    (regWrite r v s).offers = s.offers := rfl
@[simp] theorem regWrite_resetIn (r : DevReg) (v : Word) (s : State) :
    (regWrite r v s).resetIn = s.resetIn := rfl

/-! #### portRead -/

@[simp] theorem portRead_cfg (off : Nat) (s : State) :
    ((portRead off s).2).cfg = s.cfg := rfl
@[simp] theorem portRead_S (off : Nat) (s : State) :
    ((portRead off s).2).S = s.S := rfl
@[simp] theorem portRead_busy (off : Nat) (s : State) :
    ((portRead off s).2).busy = s.busy := rfl
@[simp] theorem portRead_done (off : Nat) (s : State) :
    ((portRead off s).2).done = s.done := rfl
@[simp] theorem portRead_rsp (off : Nat) (s : State) :
    ((portRead off s).2).rsp = s.rsp := rfl
@[simp] theorem portRead_hid (off : Nat) (s : State) :
    ((portRead off s).2).hid = { s.hid with latch := deviceAnswer off s } := (rfl)
@[simp] theorem portRead_trace (off : Nat) (s : State) :
    ((portRead off s).2).trace = s.trace ++ [.read off (deviceAnswer off s)] := rfl
@[simp] theorem portRead_answers (off : Nat) (s : State) :
    ((portRead off s).2).answers = s.answers.tail := rfl
@[simp] theorem portRead_draws (off : Nat) (s : State) :
    ((portRead off s).2).draws = s.draws + 1 := rfl
@[simp] theorem portRead_offers (off : Nat) (s : State) :
    ((portRead off s).2).offers = s.offers := rfl
@[simp] theorem portRead_resetIn (off : Nat) (s : State) :
    ((portRead off s).2).resetIn = s.resetIn := rfl

/-! #### regRead -/

@[simp] theorem regRead_cfg (r : DevReg) (s : State) :
    ((regRead r s).2).cfg = s.cfg := rfl
@[simp] theorem regRead_S (r : DevReg) (s : State) :
    ((regRead r s).2).S = s.S := rfl
@[simp] theorem regRead_busy (r : DevReg) (s : State) :
    ((regRead r s).2).busy = s.busy := rfl
@[simp] theorem regRead_done (r : DevReg) (s : State) :
    ((regRead r s).2).done = s.done := rfl
@[simp] theorem regRead_rsp (r : DevReg) (s : State) :
    ((regRead r s).2).rsp = s.rsp := rfl
@[simp] theorem regRead_hid (r : DevReg) (s : State) :
    ((regRead r s).2).hid = { s.hid with latch := deviceAnswer (s.cfg.params.offset r) s } := (rfl)
@[simp] theorem regRead_trace (r : DevReg) (s : State) :
    ((regRead r s).2).trace = s.trace ++ [.read (s.cfg.params.offset r) (deviceAnswer (s.cfg.params.offset r) s)] := rfl
@[simp] theorem regRead_answers (r : DevReg) (s : State) :
    ((regRead r s).2).answers = s.answers.tail := rfl
@[simp] theorem regRead_draws (r : DevReg) (s : State) :
    ((regRead r s).2).draws = s.draws + 1 := rfl
@[simp] theorem regRead_offers (r : DevReg) (s : State) :
    ((regRead r s).2).offers = s.offers := rfl
@[simp] theorem regRead_resetIn (r : DevReg) (s : State) :
    ((regRead r s).2).resetIn = s.resetIn := rfl

/-! #### pollRead -/

@[simp] theorem pollRead_cfg (r : DevReg) (s : State) :
    ((pollRead r s).2).cfg = s.cfg := rfl
@[simp] theorem pollRead_S (r : DevReg) (s : State) :
    ((pollRead r s).2).S = s.S := rfl
@[simp] theorem pollRead_busy (r : DevReg) (s : State) :
    ((pollRead r s).2).busy = s.busy := rfl
@[simp] theorem pollRead_done (r : DevReg) (s : State) :
    ((pollRead r s).2).done = s.done := rfl
@[simp] theorem pollRead_rsp (r : DevReg) (s : State) :
    ((pollRead r s).2).rsp = s.rsp := rfl
@[simp] theorem pollRead_hid (r : DevReg) (s : State) :
    ((pollRead r s).2).hid = { s.hid with latch := deviceAnswer (s.cfg.params.offset r) s, tries := s.hid.tries + 1 } := (rfl)
@[simp] theorem pollRead_trace (r : DevReg) (s : State) :
    ((pollRead r s).2).trace = s.trace ++ [.read (s.cfg.params.offset r) (deviceAnswer (s.cfg.params.offset r) s)] := rfl
@[simp] theorem pollRead_answers (r : DevReg) (s : State) :
    ((pollRead r s).2).answers = s.answers.tail := rfl
@[simp] theorem pollRead_draws (r : DevReg) (s : State) :
    ((pollRead r s).2).draws = s.draws + 1 := rfl
@[simp] theorem pollRead_offers (r : DevReg) (s : State) :
    ((pollRead r s).2).offers = s.offers := rfl
@[simp] theorem pollRead_resetIn (r : DevReg) (s : State) :
    ((pollRead r s).2).resetIn = s.resetIn := rfl

/-! #### accept -/

@[simp] theorem accept_cfg (p : Packet) (s : State) :
    (accept p s).cfg = s.cfg := rfl
@[simp] theorem accept_S (p : Packet) (s : State) :
    (accept p s).S = s.S := rfl
@[simp] theorem accept_busy (p : Packet) (s : State) :
    (accept p s).busy = true := rfl
@[simp] theorem accept_done (p : Packet) (s : State) :
    (accept p s).done = s.done := rfl
@[simp] theorem accept_rsp (p : Packet) (s : State) :
    (accept p s).rsp = s.rsp := rfl
@[simp] theorem accept_hid (p : Packet) (s : State) :
    (accept p s).hid = { s.hid with cmd := p, seq := .entry, prepollTimeout := false } := (rfl)
@[simp] theorem accept_trace (p : Packet) (s : State) :
    (accept p s).trace = s.trace := rfl
@[simp] theorem accept_answers (p : Packet) (s : State) :
    (accept p s).answers = s.answers := rfl
@[simp] theorem accept_draws (p : Packet) (s : State) :
    (accept p s).draws = s.draws := rfl
@[simp] theorem accept_offers (p : Packet) (s : State) :
    (accept p s).offers = s.offers := rfl
@[simp] theorem accept_resetIn (p : Packet) (s : State) :
    (accept p s).resetIn = s.resetIn := rfl

/-! #### respond -/

@[simp] theorem respond_cfg (e : Status) (r1 r2 : Word) (n : Nat) (s : State) :
    (respond e r1 r2 n s).cfg = s.cfg := rfl
@[simp] theorem respond_S (e : Status) (r1 r2 : Word) (n : Nat) (s : State) :
    (respond e r1 r2 n s).S = s.S := rfl
@[simp] theorem respond_busy (e : Status) (r1 r2 : Word) (n : Nat) (s : State) :
    (respond e r1 r2 n s).busy = false := rfl
@[simp] theorem respond_done (e : Status) (r1 r2 : Word) (n : Nat) (s : State) :
    (respond e r1 r2 n s).done = true := rfl
@[simp] theorem respond_rsp (e : Status) (r1 r2 : Word) (n : Nat) (s : State) :
    (respond e r1 r2 n s).rsp = ⟨rsp0Word e s.hid.prepollTimeout n, r1, r2⟩ := rfl
@[simp] theorem respond_hid (e : Status) (r1 r2 : Word) (n : Nat) (s : State) :
    (respond e r1 r2 n s).hid = { s.hid with seq := .idle } := (rfl)
@[simp] theorem respond_trace (e : Status) (r1 r2 : Word) (n : Nat) (s : State) :
    (respond e r1 r2 n s).trace = s.trace := rfl
@[simp] theorem respond_answers (e : Status) (r1 r2 : Word) (n : Nat) (s : State) :
    (respond e r1 r2 n s).answers = s.answers := rfl
@[simp] theorem respond_draws (e : Status) (r1 r2 : Word) (n : Nat) (s : State) :
    (respond e r1 r2 n s).draws = s.draws := rfl
@[simp] theorem respond_offers (e : Status) (r1 r2 : Word) (n : Nat) (s : State) :
    (respond e r1 r2 n s).offers = s.offers := rfl
@[simp] theorem respond_resetIn (e : Status) (r1 r2 : Word) (n : Nat) (s : State) :
    (respond e r1 r2 n s).resetIn = s.resetIn := rfl

/-! #### raise -/

@[simp] theorem raise_cfg (e : Status) (s : State) :
    (raise e s).cfg = s.cfg := rfl
@[simp] theorem raise_S (e : Status) (s : State) :
    (raise e s).S = s.S := rfl
@[simp] theorem raise_busy (e : Status) (s : State) :
    (raise e s).busy = false := rfl
@[simp] theorem raise_done (e : Status) (s : State) :
    (raise e s).done = true := rfl
@[simp] theorem raise_rsp (e : Status) (s : State) :
    (raise e s).rsp = ⟨rsp0Word e s.hid.prepollTimeout 0, 0, 0⟩ := rfl
@[simp] theorem raise_hid (e : Status) (s : State) :
    (raise e s).hid = { s.hid with seq := .idle } := (rfl)
@[simp] theorem raise_trace (e : Status) (s : State) :
    (raise e s).trace = s.trace := rfl
@[simp] theorem raise_answers (e : Status) (s : State) :
    (raise e s).answers = s.answers := rfl
@[simp] theorem raise_draws (e : Status) (s : State) :
    (raise e s).draws = s.draws := rfl
@[simp] theorem raise_offers (e : Status) (s : State) :
    (raise e s).offers = s.offers := rfl
@[simp] theorem raise_resetIn (e : Status) (s : State) :
    (raise e s).resetIn = s.resetIn := rfl

/-! #### prepareDco -/

@[simp] theorem prepareDco_cfg (f m : Word) (s : State) :
    (prepareDco f m s).cfg = s.cfg := rfl
@[simp] theorem prepareDco_S (f m : Word) (s : State) :
    (prepareDco f m s).S = s.S := rfl
@[simp] theorem prepareDco_busy (f m : Word) (s : State) :
    (prepareDco f m s).busy = s.busy := rfl
@[simp] theorem prepareDco_done (f m : Word) (s : State) :
    (prepareDco f m s).done = s.done := rfl
@[simp] theorem prepareDco_rsp (f m : Word) (s : State) :
    (prepareDco f m s).rsp = s.rsp := rfl
@[simp] theorem prepareDco_hid (f m : Word) (s : State) :
    (prepareDco f m s).hid = { s.hid with pendingDco := dcoWordOf s.S f m } := (rfl)
@[simp] theorem prepareDco_trace (f m : Word) (s : State) :
    (prepareDco f m s).trace = s.trace := rfl
@[simp] theorem prepareDco_answers (f m : Word) (s : State) :
    (prepareDco f m s).answers = s.answers := rfl
@[simp] theorem prepareDco_draws (f m : Word) (s : State) :
    (prepareDco f m s).draws = s.draws := rfl
@[simp] theorem prepareDco_offers (f m : Word) (s : State) :
    (prepareDco f m s).offers = s.offers := rfl
@[simp] theorem prepareDco_resetIn (f m : Word) (s : State) :
    (prepareDco f m s).resetIn = s.resetIn := rfl

/-! #### writeDco -/

@[simp] theorem writeDco_cfg (f m : Word) (s : State) :
    (writeDco f m s).cfg = s.cfg := rfl
@[simp] theorem writeDco_S (f m : Word) (s : State) :
    (writeDco f m s).S = { s.S with dco := f, dcoMillis := m } := rfl
@[simp] theorem writeDco_busy (f m : Word) (s : State) :
    (writeDco f m s).busy = s.busy := rfl
@[simp] theorem writeDco_done (f m : Word) (s : State) :
    (writeDco f m s).done = s.done := rfl
@[simp] theorem writeDco_rsp (f m : Word) (s : State) :
    (writeDco f m s).rsp = s.rsp := rfl
@[simp] theorem writeDco_hid (f m : Word) (s : State) :
    (writeDco f m s).hid = s.hid := (rfl)
@[simp] theorem writeDco_trace (f m : Word) (s : State) :
    (writeDco f m s).trace = s.trace ++ [.write s.cfg.params.regDco s.hid.pendingDco] := rfl
@[simp] theorem writeDco_answers (f m : Word) (s : State) :
    (writeDco f m s).answers = s.answers := rfl
@[simp] theorem writeDco_draws (f m : Word) (s : State) :
    (writeDco f m s).draws = s.draws := rfl
@[simp] theorem writeDco_offers (f m : Word) (s : State) :
    (writeDco f m s).offers = s.offers := rfl
@[simp] theorem writeDco_resetIn (f m : Word) (s : State) :
    (writeDco f m s).resetIn = s.resetIn := rfl

/-! #### programDco -/

@[simp] theorem programDco_cfg (f m : Word) (s : State) :
    (programDco f m s).cfg = s.cfg := rfl
@[simp] theorem programDco_S (f m : Word) (s : State) :
    (programDco f m s).S = { s.S with dco := f, dcoMillis := m } := rfl
@[simp] theorem programDco_busy (f m : Word) (s : State) :
    (programDco f m s).busy = s.busy := rfl
@[simp] theorem programDco_done (f m : Word) (s : State) :
    (programDco f m s).done = s.done := rfl
@[simp] theorem programDco_rsp (f m : Word) (s : State) :
    (programDco f m s).rsp = s.rsp := rfl
@[simp] theorem programDco_hid (f m : Word) (s : State) :
    (programDco f m s).hid = { s.hid with pendingDco := dcoWordOf s.S f m } := (rfl)
@[simp] theorem programDco_trace (f m : Word) (s : State) :
    (programDco f m s).trace = s.trace ++ [.write s.cfg.params.regDco (dcoWordOf s.S f m)] := rfl
@[simp] theorem programDco_answers (f m : Word) (s : State) :
    (programDco f m s).answers = s.answers := rfl
@[simp] theorem programDco_draws (f m : Word) (s : State) :
    (programDco f m s).draws = s.draws := rfl
@[simp] theorem programDco_offers (f m : Word) (s : State) :
    (programDco f m s).offers = s.offers := rfl
@[simp] theorem programDco_resetIn (f m : Word) (s : State) :
    (programDco f m s).resetIn = s.resetIn := rfl

/-! #### applyReset -/

@[simp] theorem applyReset_cfg (s : State) :
    (applyReset s).cfg = s.cfg := rfl
@[simp] theorem applyReset_S (s : State) :
    (applyReset s).S = Stored.atReset s.cfg := rfl
@[simp] theorem applyReset_busy (s : State) :
    (applyReset s).busy = false := rfl
@[simp] theorem applyReset_done (s : State) :
    (applyReset s).done = false := rfl
@[simp] theorem applyReset_rsp (s : State) :
    (applyReset s).rsp = Response.atReset := rfl
@[simp] theorem applyReset_hid (s : State) :
    (applyReset s).hid = Hidden.atReset := (rfl)
@[simp] theorem applyReset_trace (s : State) :
    (applyReset s).trace = s.trace := rfl
@[simp] theorem applyReset_answers (s : State) :
    (applyReset s).answers = s.answers := rfl
@[simp] theorem applyReset_draws (s : State) :
    (applyReset s).draws = s.draws := rfl
@[simp] theorem applyReset_offers (s : State) :
    (applyReset s).offers = s.offers := rfl
@[simp] theorem applyReset_resetIn (s : State) :
    (applyReset s).resetIn = none := rfl

/-! #### offerNext -/

@[simp] theorem offerNext_cfg (p : Packet) (s : State) :
    (offerNext p s).cfg = s.cfg := rfl
@[simp] theorem offerNext_S (p : Packet) (s : State) :
    (offerNext p s).S = s.S := rfl
@[simp] theorem offerNext_busy (p : Packet) (s : State) :
    (offerNext p s).busy = false := rfl
@[simp] theorem offerNext_done (p : Packet) (s : State) :
    (offerNext p s).done = s.done := rfl
@[simp] theorem offerNext_rsp (p : Packet) (s : State) :
    (offerNext p s).rsp = s.rsp := rfl
@[simp] theorem offerNext_hid (p : Packet) (s : State) :
    (offerNext p s).hid = { s.hid with seq := .idle } := (rfl)
@[simp] theorem offerNext_trace (p : Packet) (s : State) :
    (offerNext p s).trace = s.trace := rfl
@[simp] theorem offerNext_answers (p : Packet) (s : State) :
    (offerNext p s).answers = s.answers := rfl
@[simp] theorem offerNext_draws (p : Packet) (s : State) :
    (offerNext p s).draws = s.draws := rfl
@[simp] theorem offerNext_offers (p : Packet) (s : State) :
    (offerNext p s).offers = p :: s.offers := rfl
@[simp] theorem offerNext_resetIn (p : Packet) (s : State) :
    (offerNext p s).resetIn = none := rfl

/-! #### The values read, and the offsets by name -/

@[simp] theorem portRead_fst (off : Nat) (s : State) : (portRead off s).1 = deviceAnswer off s := rfl
@[simp] theorem regRead_fst (r : DevReg) (s : State) :
    (regRead r s).1 = deviceAnswer (s.cfg.params.offset r) s := rfl
@[simp] theorem pollRead_fst (r : DevReg) (s : State) :
    (pollRead r s).1 = deviceAnswer (s.cfg.params.offset r) s := rfl
@[simp] theorem deviceAnswer_cons (off : Nat) (s : State) (v : Word) (vs : List Word) (h : s.answers = v :: vs) :
    deviceAnswer off s = v := by simp [deviceAnswer, h]

@[simp] theorem offset_busStatus (p : Params) : p.offset .busStatus = p.regBusStatus := rfl
@[simp] theorem offset_busCs (p : Params) : p.offset .busCs = p.regBusCs := rfl
@[simp] theorem offset_busWbits (p : Params) : p.offset .busWbits = p.regBusWbits := rfl
@[simp] theorem offset_busRbits (p : Params) : p.offset .busRbits = p.regBusRbits := rfl
@[simp] theorem offset_busData (p : Params) : p.offset .busData = p.regBusData := rfl
@[simp] theorem offset_measSelect (p : Params) : p.offset .measSelect = p.regMeasSelect := rfl
@[simp] theorem offset_meas (p : Params) : p.offset .meas = p.regMeas := rfl
@[simp] theorem offset_dco (p : Params) : p.offset .dco = p.regDco := rfl
@[simp] theorem offset_speedClksel (p : Params) : p.offset .speedClksel = p.regSpeedClksel := rfl
@[simp] theorem offset_speedMode (p : Params) : p.offset .speedMode = p.regSpeedMode := rfl
@[simp] theorem offset_clockSource (p : Params) : p.offset .clockSource = p.regClockSource := rfl

end Sys2Proof.Laws
end

