-- ==== Sys2Proof/Laws/Trace.lean ====
section
/-! SUPPORT. Traces: the values read, the last write to an offset, the answers consumed. -/

namespace Sys2Proof.Laws

open Sys2Proof Sys2Proof.Machine

@[simp] theorem readValues_nil : readValues [] = [] := rfl
@[simp] theorem readValues_append (a b : List Event) : readValues (a ++ b) = readValues a ++ readValues b := by
  simp [readValues]
@[simp] theorem readValues_cons_write (o : Nat) (v : Word) (es : List Event) :
    readValues (.write o v :: es) = readValues es := rfl
@[simp] theorem readValues_cons_read (o : Nat) (v : Word) (es : List Event) :
    readValues (.read o v :: es) = v :: readValues es := rfl
@[simp] theorem readValues_cons_delay (es : List Event) : readValues (.delay :: es) = readValues es := rfl
@[simp] theorem readValues_cons_log (g : DiagTag) (es : List Event) :
    readValues (.log g :: es) = readValues es := rfl

/-- Each failed try of a poll reads one value. -/
theorem readValues_failedTries (off : Nat) (vs : List Word) : readValues (vs.flatMap (failedTry off)) = vs := by
  induction vs with
  | nil => rfl
  | cons v vs ih => simp [failedTry, ih]

/-- Each failed try of a poll records two events. -/
theorem length_failedTries (off : Nat) (vs : List Word) : (vs.flatMap (failedTry off)).length = 2 * vs.length := by
  induction vs with
  | nil => rfl
  | cons v vs ih => simp [failedTry, ih]; omega

/-- Each failed try of a poll waits once. -/
theorem count_delay_failedTries (off : Nat) (vs : List Word) :
    (vs.flatMap (failedTry off)).count .delay = vs.length := by
  induction vs with
  | nil => rfl
  | cons v vs ih => simp [failedTry, ih]

@[simp] theorem lastWrite_nil (off : Nat) : lastWrite off [] = none := rfl

/-- The last write of a trace in two parts is the second part's, if it has one. -/
theorem lastWrite_append (off : Nat) (a b : List Event) :
    lastWrite off (a ++ b) = (lastWrite off b).or (lastWrite off a) := by
  induction a with
  | nil => simp
  | cons e a ih =>
    simp only [List.cons_append, lastWrite, ih]
    cases lastWrite off b with
    | none => simp
    | some v => simp

/-- A write is the last write to its own offset. -/
theorem lastWrite_concat_write (off : Nat) (v : Word) (a : List Event) :
    lastWrite off (a ++ [.write off v]) = some v := by
  simp [lastWrite_append, lastWrite]

/-- Failed tries write nothing. -/
theorem lastWrite_failedTries (off o : Nat) (vs : List Word) : lastWrite off (vs.flatMap (failedTry o)) = none := by
  induction vs with
  | nil => rfl
  | cons v vs ih => simp [failedTry, lastWrite, ih]

/-- A command part that changes neither answers nor draws and reads nothing. -/
theorem Answered.of_no_reads {s t : State} {es : List Event} (ha : t.answers = s.answers) (hd : t.draws = s.draws)
    (hr : readValues es = []) : Answered s t es := by
  constructor <;> simp [ha, hd, hr]

/-- One read takes the next answer. -/
theorem Answered.of_read {s t : State} {es : List Event} {off : Nat} (ha : t.answers = s.answers.tail)
    (hd : t.draws = s.draws + 1) (hr : readValues es = [deviceAnswer off s]) : Answered s t es := by
  constructor
  · simp [hd, hr]
  · simp [ha, hr]
  · simp only [hr, deviceAnswer]
    cases s.answers <;> simp

/-- Answers are consumed one part of a command after the other. -/
theorem Answered.trans {s t u : State} {a b : List Event} (h1 : Answered s t a) (h2 : Answered t u b) :
    Answered s u (a ++ b) := by
  constructor
  · simp [h2.draws, h1.draws, Nat.add_assoc]
  · simp [h2.answers, h1.answers, List.drop_drop]
  · have g1 := h1.given
    have g2 := h2.given
    rw [h1.answers] at g2
    simp only [readValues_append, List.length_append, List.take_append, g1, List.take_add]
    congr 1
    simpa using g2

end Sys2Proof.Laws
end

