-- ==== Sys2Proof/Laws/Poll.lean ====
section
/-! SUPPORT. Everything a bounded poll can do, said once (spec/40_register_port.md R67). -/

namespace Sys2Proof.Laws

open Sys2Proof Sys2Proof.Machine

/-- What a poll leaves as it was: all but the trace, the answers, the latch and the try counter. -/
structure Polled (s t : State) : Prop where
  cfg            : t.cfg = s.cfg
  S              : t.S = s.S
  busy           : t.busy = s.busy
  done           : t.done = s.done
  rsp            : t.rsp = s.rsp
  offers         : t.offers = s.offers
  resetIn        : t.resetIn = s.resetIn
  cmd            : t.hid.cmd = s.hid.cmd
  seq            : t.hid.seq = s.hid.seq
  prepollTimeout : t.hid.prepollTimeout = s.hid.prepollTimeout
  pendingDco     : t.hid.pendingDco = s.hid.pendingDco

theorem pollLoop_zero (r : DevReg) (test : Word → Bool) (s : State) :
    pollLoop r test 0 s = (.timeout, s) := rfl

theorem pollLoop_succ (r : DevReg) (test : Word → Bool) (n : Nat) (s : State) :
    pollLoop r test (n + 1) s =
      if test (deviceAnswer (s.cfg.params.offset r) s) then
        (.ready (deviceAnswer (s.cfg.params.offset r) s), (pollRead r s).2)
      else pollLoop r test n (delay (pollRead r s).2) := rfl

/-- The loop of a poll: what it records, how many reads it counts, what it latches, what it keeps. -/
theorem pollLoop_spec (r : DevReg) (test : Word → Bool) (n : Nat) (s : State) :
    ∃ es, PollEvents (s.cfg.params.offset r) test n es (pollLoop r test n s).1 ∧
      (pollLoop r test n s).2.trace = s.trace ++ es ∧
      (pollLoop r test n s).2.hid.tries = s.hid.tries + (readValues es).length ∧
      (readValues es).length ≤ n ∧
      (∀ v, (pollLoop r test n s).1 = .ready v → (pollLoop r test n s).2.hid.latch = v) ∧
      Answered s (pollLoop r test n s).2 es ∧ Polled s (pollLoop r test n s).2 := by
  induction n generalizing s with
  | zero =>
    exact ⟨[], ⟨[], by simp, by simp [pollLoop_zero]⟩, by simp [pollLoop_zero], by simp [pollLoop_zero], by simp,
      by simp [pollLoop_zero], Answered.of_no_reads rfl rfl rfl, by constructor <;> rfl⟩
  | succ n ih =>
    rw [pollLoop_succ]
    by_cases h : test (deviceAnswer (s.cfg.params.offset r) s) = true
    · rw [if_pos h]
      refine ⟨[.read (s.cfg.params.offset r) (deviceAnswer (s.cfg.params.offset r) s)],
        ⟨[], by simp, h, by simp, by simp⟩, by simp, by simp, by simp, by simp, ?_, by constructor <;> simp⟩
      exact Answered.of_read (off := s.cfg.params.offset r) (by simp) (by simp) (by simp)
    · rw [if_neg h]
      obtain ⟨es, ⟨fails, hf, hres⟩, htr, htries, hlen, hlatch, hans, hpol⟩ := ih (delay (pollRead r s).2)
      simp only [delay_cfg, pollRead_cfg] at hres
      have hread : Answered s (delay (pollRead r s).2)
          (failedTry (s.cfg.params.offset r) (deviceAnswer (s.cfg.params.offset r) s)) :=
        Answered.of_read (off := s.cfg.params.offset r) (by simp) (by simp) (by simp [failedTry])
      refine ⟨failedTry (s.cfg.params.offset r) (deviceAnswer (s.cfg.params.offset r) s) ++ es,
        ⟨deviceAnswer (s.cfg.params.offset r) s :: fails, ?_, ?_⟩, ?_, ?_, ?_, hlatch, Answered.trans hread hans, ?_⟩
      · simpa [h] using hf
      · revert hres
        cases (pollLoop r test n (delay (pollRead r s).2)).1 with
        | timeout =>
          intro hres
          exact ⟨by simp [hres.1], by simp [hres.2]⟩
        | ready v =>
          intro hres
          exact ⟨hres.1, by have := hres.2.1; simp; omega, by simp [hres.2.2]⟩
      · simp [htr, failedTry]
      · simp [htries, failedTry]; omega
      · simp [failedTry]; omega
      · constructor <;> simp [hpol.cfg, hpol.S, hpol.busy, hpol.done, hpol.rsp, hpol.offers, hpol.resetIn, hpol.cmd,
          hpol.seq, hpol.prepollTimeout, hpol.pendingDco]

/-- A poll on given answers: the failing ones are read one by one, each followed by a delay. -/
theorem pollLoop_fails (r : DevReg) (test : Word → Bool) (vs : List Word) (n : Nat) (s : State) (rest : List Word)
    (hf : ∀ v ∈ vs, test v = false) (ha : s.answers = vs ++ rest) :
    ∃ t, pollLoop r test (vs.length + n) s = pollLoop r test n t ∧ t.answers = rest ∧
      t.trace = s.trace ++ vs.flatMap (failedTry (s.cfg.params.offset r)) ∧
      t.hid.tries = s.hid.tries + vs.length ∧ Polled s t := by
  induction vs generalizing s with
  | nil => exact ⟨s, by simp, by simpa using ha, by simp, by simp, by constructor <;> rfl⟩
  | cons v vs ih =>
    have hv : deviceAnswer (s.cfg.params.offset r) s = v := by simp [deviceAnswer, ha]
    obtain ⟨t, h1, h2, h3, h4, h5⟩ :=
      ih (delay (pollRead r s).2) (fun w hw => hf w (List.mem_cons_of_mem _ hw)) (by simp [ha])
    refine ⟨t, ?_, h2, ?_, ?_, ?_⟩
    · rw [List.length_cons, show vs.length + 1 + n = (vs.length + n) + 1 by omega, pollLoop_succ, hv,
        if_neg (by simp [hf v]), h1]
    · simp [h3, hv, failedTry]
    · simp [h4]; omega
    · constructor <;> simp [h5.cfg, h5.S, h5.busy, h5.done, h5.rsp, h5.offers, h5.resetIn, h5.cmd,
        h5.seq, h5.prepollTimeout, h5.pendingDco]

end Sys2Proof.Laws
end

