-- ==== Sys2Proof/Laws/Sequencer.lean ====
section
/-! SUPPORT. What one transition of the sequencer keeps, and where runs of it lead: the bricks of every statement that
compares the walk from micro-operation to micro-operation (spec/10_state.md R17, 40_register_port.md R70) with the whole
commands. -/

namespace Sys2Proof.Laws

open Sys2Proof Sys2Proof.Machine

/-! ### One transition -/

/-- What every transition keeps; and what of the handshake it moves: nothing, or it publishes a response and records
nothing. -/
structure Frame (s t : State) : Prop where
  cfg       : t.cfg = s.cfg
  cmd       : t.hid.cmd = s.hid.cmd
  offers    : t.offers = s.offers
  resetIn   : t.resetIn = s.resetIn
  handshake : (t.busy = s.busy ∧ t.done = s.done ∧ t.rsp = s.rsp) ∨
    (t.busy = false ∧ t.done = true ∧ t.hid.seq = .idle ∧ t.trace = s.trace ∧ t.answers = s.answers ∧ t.draws = s.draws)

theorem Frame.respond (e : Status) (r1 r2 : Word) (n : Nat) (s : State) : Frame s (Machine.respond e r1 r2 n s) :=
  ⟨rfl, rfl, rfl, rfl, .inr ⟨rfl, rfl, rfl, rfl, rfl, rfl⟩⟩

theorem Frame.still {s t : State} (cfg : t.cfg = s.cfg) (cmd : t.hid.cmd = s.hid.cmd) (offers : t.offers = s.offers)
    (resetIn : t.resetIn = s.resetIn) (busy : t.busy = s.busy) (done : t.done = s.done) (rsp : t.rsp = s.rsp) :
    Frame s t := ⟨cfg, cmd, offers, resetIn, .inl ⟨busy, done, rsp⟩⟩

theorem frame_answerClockSource (s : State) : Frame s (answerClockSource s) := by
  unfold answerClockSource
  split <;> exact Frame.respond ..

theorem frame_enter (s : State) : Frame s (enter s) := by
  unfold enter
  generalize decode s.hid.cmd = x
  rcases x with e | i
  on_goal 2 => cases i
  all_goals dsimp only
  all_goals repeat' split
  all_goals first
    | exact Frame.still rfl rfl rfl rfl rfl rfl rfl
    | exact Frame.respond ..
    | exact frame_answerClockSource s

theorem frame_pollStep (r : DevReg) (test : Word → Bool) (p q : Pos) (s : State) : Frame s (pollStep r test p q s) := by
  unfold pollStep
  dsimp only
  split <;> exact Frame.still rfl rfl rfl rfl rfl rfl rfl

theorem frame_delayStep (T : Nat) (p q : Pos) (s : State) : Frame s (delayStep T p q s) := by
  unfold delayStep
  dsimp only
  split <;> exact Frame.still rfl rfl rfl rfl rfl rfl rfl

/-- The configuration, the latched packet, the host's packets and the reset's arrival stand through every transition. -/
theorem frame_microStep (s : State) : Frame s (microStep s) := by
  unfold microStep
  cases s.hid.seq <;> dsimp only
  case entry => exact frame_enter s
  case rDcoOld => exact Frame.still rfl (by simp) rfl rfl rfl rfl rfl
  all_goals first
    | exact Frame.still rfl rfl rfl rfl rfl rfl rfl
    | exact Frame.respond ..
    | exact frame_pollStep ..
    | exact frame_delayStep ..
    | (unfold afterCounts; repeat' split
       all_goals exact Frame.still rfl rfl rfl rfl rfl rfl rfl)
    | (unfold afterData; split <;> exact Frame.still rfl rfl rfl rfl rfl rfl rfl)

/-! ### Runs -/

theorem microRun_zero (s : State) : microRun 0 s = s := rfl

theorem microRun_succ (n : Nat) (s : State) : microRun (n + 1) s = microRun n (microStep s) := rfl

theorem microRun_add (a b : Nat) (s : State) : microRun (a + b) s = microRun b (microRun a s) := by
  induction a generalizing s with
  | zero => simp [microRun]
  | succ a ih => rw [show a + 1 + b = (a + b) + 1 by omega]; simp only [microRun, ih]

/-- At `idle` a transition changes nothing (R125). -/
theorem microRun_idle (n : Nat) (s : State) (h : s.hid.seq = .idle) : microRun n s = s := by
  induction n with
  | zero => rfl
  | succ n ih =>
    rw [microRun_succ, show microStep s = s by simp [microStep, h], ih]

/-- `t` is reached from `s` in at most `n` transitions. -/
def Reach (n : Nat) (s t : State) : Prop := ∃ k ≤ n, microRun k s = t

theorem Reach.one {s t : State} (h : microStep s = t) : Reach 1 s t := ⟨1, le_refl _, by simp [microRun, h]⟩

theorem Reach.trans {a b : Nat} {s t u : State} (h1 : Reach a s t) (h2 : Reach b t u) : Reach (a + b) s u := by
  obtain ⟨k, hk, e⟩ := h1
  obtain ⟨l, hl, f⟩ := h2
  exact ⟨k + l, by omega, by rw [microRun_add, e, f]⟩

/-- An idle state reached within the bound is what the command's run ends at. -/
theorem Reach.finish {n : Nat} {s t : State} (h : Reach n s t) (hn : n ≤ commandBound) (hi : t.hid.seq = .idle) :
    Machine.finish s = t := by
  obtain ⟨k, hk, e⟩ := h
  unfold Machine.finish
  rw [show commandBound = k + (commandBound - k) by omega, microRun_add, e, microRun_idle _ _ hi]

/-! ### A poll, transition by transition -/

/-- Where a poll's end leads. -/
def pollEnd (onReady onTimeout : Pos) : PollResult × State → State
  | (.ready _, t) => t.goto onReady
  | (.timeout, t) => t.goto onTimeout

/-- The most transitions a poll of `T` tries takes: a read for each try and a delay for each failed one. -/
def pollCost (T : Nat) : PollResult → Nat
  | .ready _ => 2 * T - 1
  | .timeout => 2 * T

theorem pollEnd_goto (a b c : Pos) (x : PollResult × State) : pollEnd a b (x.1, x.2.goto c) = pollEnd a b x := by
  rcases x with ⟨_ | _, t⟩ <;> rfl

/-- The loop of a poll does not look at the position. -/
theorem pollLoop_goto (r : DevReg) (test : Word → Bool) (n : Nat) (s : State) (p : Pos) :
    pollLoop r test n (s.goto p) = ((pollLoop r test n s).1, (pollLoop r test n s).2.goto p) := by
  induction n generalizing s with
  | zero => rfl
  | succ n ih =>
    rw [pollLoop_succ, pollLoop_succ]
    have e : deviceAnswer ((s.goto p).cfg.params.offset r) (s.goto p) = deviceAnswer (s.cfg.params.offset r) s := rfl
    rw [e]
    split
    · rfl
    · rw [← ih]; rfl

/-- One failed try, as two transitions or as one turn of the loop. -/
theorem poll_turn (r : DevReg) (test : Word → Bool) (T : Nat) (pr pd pok pto : Pos) (s : State)
    (h1 : microStep s = pollStep r test pok pd s)
    (h2 : ∀ u : State, u.hid.seq = pd → microStep u = delayStep T pr pto u)
    (h : test (deviceAnswer (s.cfg.params.offset r) s) = false) :
    microRun 2 s =
      if s.hid.tries + 1 < T then (delay (pollRead r s).2).goto pr else (delay (pollRead r s).2).goto pto := by
  have e : pollStep r test pok pd s = (pollRead r s).2.goto pd := by simp [pollStep, h]
  simp only [microRun, h1, e, h2 _ (show ((pollRead r s).2.goto pd).hid.seq = pd from rfl)]
  rfl

/-- A poll walked transition by transition is the loop of R67, whatever the device answers. -/
theorem poll_reach (r : DevReg) (test : Word → Bool) (T : Nat) (pr pd pok pto : Pos) (c : Configuration)
    (h1 : ∀ s : State, s.cfg = c → s.hid.seq = pr → microStep s = pollStep r test pok pd s)
    (h2 : ∀ s : State, s.hid.seq = pd → microStep s = delayStep T pr pto s)
    (n : Nat) (s : State) (hc : s.cfg = c) (hs : s.hid.seq = pr) (ht : s.hid.tries + (n + 1) = T) :
    Reach (pollCost (n + 1) (pollLoop r test (n + 1) s).1) s (pollEnd pok pto (pollLoop r test (n + 1) s)) := by
  induction n generalizing s with
  | zero =>
    rw [pollLoop_succ, pollLoop_zero]
    cases h : test (deviceAnswer (s.cfg.params.offset r) s) with
    | true =>
      refine ⟨1, by simp [pollCost], ?_⟩
      simp [microRun, h1 s hc hs, pollStep, h, pollEnd]
    | false =>
      refine ⟨2, by simp [pollCost], ?_⟩
      rw [poll_turn r test T pr pd pok pto s (h1 s hc hs) h2 h, if_neg (by omega)]
      rfl
  | succ n ih =>
    rw [pollLoop_succ]
    cases h : test (deviceAnswer (s.cfg.params.offset r) s) with
    | true =>
      refine ⟨1, ?_, by simp [microRun, h1 s hc hs, pollStep, h, pollEnd]⟩
      show 1 ≤ 2 * (n + 1 + 1) - 1
      omega
    | false =>
      have e : microRun 2 s = (delay (pollRead r s).2).goto pr := by
        rw [poll_turn r test T pr pd pok pto s (h1 s hc hs) h2 h, if_pos (by omega)]
      have next := ih ((delay (pollRead r s).2).goto pr) (by simpa using hc) (by simp) (by simp; omega)
      rw [pollLoop_goto, pollEnd_goto] at next
      obtain ⟨k, hk, run⟩ := Reach.trans ⟨2, le_refl _, e⟩ next
      refine ⟨k, ?_, run⟩
      revert hk
      simp only [Bool.false_eq_true, if_false]
      cases (pollLoop r test (n + 1) (delay (pollRead r s).2)).1 <;> simp [pollCost] <;> omega

/-! ### Responses -/

theorem coherent_iff (s : State) :
    Coherent s = true ↔ handshakeOk s = true ∧ storedOk s = true ∧ responseOk s = true ∧ triesOk s = true := by
  simp [Coherent, and_assoc]

/-- A response whose count is at most 4, and whose words are 0 where its status is not OK, has the form of R59. -/
theorem responseOk_of {t : State} (e : Status) (b : Bool) (r1 r2 : Word) (n : Nat) (hn : n ≤ 4)
    (h : e = .ok ∨ (n = 0 ∧ r1 = 0 ∧ r2 = 0)) (hr : t.rsp = ⟨rsp0Word e b n, r1, r2⟩) (hd : t.done = true) :
    responseOk t = true := by
  have cases_n : n = 0 ∨ n = 1 ∨ n = 2 ∨ n = 3 ∨ n = 4 := by omega
  unfold responseOk
  rw [hr, hd]
  rcases h with rfl | ⟨rfl, rfl, rfl⟩
  · rcases cases_n with rfl | rfl | rfl | rfl | rfl <;> cases b <;>
      simp [rsp0Word, Status.code, Response.status, Response.count, rsp0ZeroBits]
  · cases e <;> cases b <;> simp [rsp0Word, Status.code, Response.status, Response.count, rsp0ZeroBits]

/-- A published response leaves a coherent machine, where the stored fields are legal. -/
theorem coherent_respond (e : Status) (r1 r2 : Word) (n : Nat) (s : State) (hn : n ≤ 4)
    (h : e = .ok ∨ (n = 0 ∧ r1 = 0 ∧ r2 = 0)) (hs : storedOk s = true) : Coherent (respond e r1 r2 n s) = true := by
  rw [coherent_iff]
  exact ⟨rfl, hs, responseOk_of e s.hid.prepollTimeout r1 r2 n hn h rfl rfl, rfl⟩

end Sys2Proof.Laws
end

