-- ==== Sys2Proof/Tests/Slice0.lean ====
section
/-! SUPPORT. The model's own tests: the ill-formed terms WellFormed and the configuration check refuse; words written out
from the encodings of spec/30_encoding.md; one-step tests whose expected results stand in spec/95_test_vectors.md; and,
for every statement with hypotheses, a concrete state and operands that meet them (theorems witness_…). -/

namespace Sys2Proof.Tests

open Sys2Proof Sys2Proof.Machine

/-! ### The example configuration of 95_test_vectors.md Part 3 -/

/-- The offsets are the model's: the spec names registers, not numbers. -/
def params : Params :=
  { windowSize := 44, regBusStatus := 0, regBusCs := 4, regBusWbits := 8, regBusRbits := 12, regBusData := 16,
    regMeasSelect := 20, regMeas := 24, regDco := 28, regSpeedClksel := 32, regSpeedMode := 36, regClockSource := 40,
    busReadyMask := 1, busReadyValue := 1, busResetValue := 0xBEEF, clkselValue := 0xC0DE, maxSpeedMode := .normal,
    rateBreakNormal := 64000, rateBreakFast := 128000, inputPorts := 1,
    clockSourceMap := [(0, .internal), (1, .syncBus), (2, .inputPort 1)], resetDcoHz := 48000, resetClockSource := 0 }

def config : Configuration := { params := params, ok := by decide }

/-- The reset state under it. -/
def start : State := State.resetWith config

/-- An idle engine with a packet offered and the device's answers given. -/
def offering (answers : List Word) (p : Packet) (s : State) : State := { s with answers := answers, offers := [p] }

def nextOf : Host.Outcome State Fault Refusal → Option State
  | .next t => some t
  | .fault _ => none
  | .refused _ => none

/-- One step on an offered packet. -/
def stepOn (answers : List Word) (p : Packet) (s : State) : Option State := nextOf (step (offering answers p s))

/-- What a test looks at: the events of the step, and the response. -/
def shown (o : Option State) : Option (List Event × Response) := o.map fun t => (t.trace, t.rsp)

/-! ### Ill-formed terms -/

theorem test_wf_detune :
    Instr.WellFormed (.setDetune 32768) = false ∧ Instr.WellFormed (.setDetune (-32769)) = false ∧
      Instr.WellFormed (.setDetune 32767) = true ∧ Instr.WellFormed (.setDetune (-32768)) = true := by decide

theorem test_wf_transfer_line :
    AsmLine.WellFormed (.transfer 65536 0 0 0) = false ∧ AsmLine.WellFormed (.transfer 0 65536 0 0) = false ∧
      AsmLine.WellFormed (.transfer 0 0 4294967296 0) = false ∧ AsmLine.WellFormed (.transfer 0 0 0 65536) = false ∧
      AsmLine.WellFormed (.transfer (-1) 0 0 0) = false ∧ AsmLine.WellFormed (.transfer 65535 65535 4294967295 65535) = true :=
  by decide

theorem test_wf_other_lines :
    AsmLine.WellFormed (.measure (-1)) = false ∧ AsmLine.WellFormed (.setDco 4294967296 0) = false ∧
      AsmLine.WellFormed (.setDco 0 (-1)) = false ∧
      AsmLine.WellFormed (.setClockSource 256) = false ∧ AsmLine.WellFormed (.setSpeedMode 256) = false ∧
      AsmLine.WellFormed (.configureRate 4294967296) = false := by decide

theorem test_wf_pseudo_lines :
    AsmLine.WellFormed (.spiWrite 65536 0 0) = false ∧ AsmLine.WellFormed (.spiWrite 0 65536 0) = false ∧
      AsmLine.WellFormed (.spiWrite 0 0 4294967296) = false ∧ AsmLine.WellFormed (.spiRead 65536 0) = false ∧
      AsmLine.WellFormed (.spiRead 0 65536) = false ∧ AsmLine.WellFormed (.setFreq (-1)) = false := by decide

theorem test_wf_offsets :
    Params.wf { params with windowSize := 46 } = false ∧ Params.wf { params with windowSize := 40 } = false ∧
      Params.wf { params with regDco := 30 } = false := by decide

theorem test_wf_disjoint :
    Params.wf { params with regMeas := 16 } = false ∧ Params.wf { params with regMeasSelect := 0 } = false := by decide

theorem test_wf_ready : Params.wf { params with busReadyValue := 3 } = false := by decide

theorem test_wf_breaks : Params.wf { params with rateBreakNormal := 128000 } = false := by decide

theorem test_wf_clock_map :
    Params.wf { params with clockSourceMap := [(0, .internal), (0, .syncBus)] } = false ∧
      Params.wf { params with clockSourceMap := [(2, .inputPort 2)] } = false ∧
      Params.wf { params with clockSourceMap := [(2, .inputPort 0)] } = false := by decide

theorem test_boot_refuses :
    (match boot { params with regDco := 30 } with
      | .refused .illFormedConfiguration => true
      | _ => false) = true := by decide

/-! ### Words of the spec's encodings (95_test_vectors.md V1) -/

theorem test_decode_transfer :
    decode ⟨0x00030001, 0x000C000C, 0xA5C30000⟩ = .ok (.transfer 0x0003 12 0xA5C30000 12) ∧
      decode ⟨0x00030001, 0x00090000, 0⟩ = .ok (.transfer 0x0003 0 0 9) := by decide

theorem test_decode_measure : decode ⟨0x00000002, 0x00000002, 0⟩ = .ok (.measure 2) := by decide

theorem test_decode_tuning :
    decode ⟨0x00000003, 0x0000AC44, 0x000001F4⟩ = .ok (.setDco 44100 500) ∧
      decode ⟨0x00000004, 0x0000FF38, 0⟩ = .ok (.setDetune (-200)) ∧
      decode ⟨0x00000004, 0x00010064, 0⟩ = .ok (.setDetune 100) ∧
      decode ⟨0x00000005, 0x00000102, 0⟩ = .ok (.setClockSource 2) := by decide

theorem test_decode_speed :
    decode ⟨0x00000006, 0x00000104, 0⟩ = .ok (.setSpeedMode 4) ∧
      decode ⟨0x12340007, 0x0000C350, 0⟩ = .ok (.configureRate 50000) := by decide

theorem test_decode_getters :
    decode ⟨0x0000FFF8, 0xDEADBEEF, 0⟩ = .ok .getDco ∧ decode ⟨0x00000009, 0, 0⟩ = .ok .getDetune ∧
      decode ⟨0x0000000A, 0, 0⟩ = .ok .getClockSource ∧ decode ⟨0x0000000B, 0, 0⟩ = .ok .getSpeedMode := by decide

theorem test_decode_reserved :
    [0x0, 0xC, 0xD, 0xE, 0xF].all (fun w : Word =>
      match decode ⟨w, 0xFFFFFFFF, 0xFFFFFFFF⟩ with
      | .ok _ => false
      | .error _ => true) = true := by decide

theorem test_assemble_commands :
    Asm.packet "TRANSFER 0x0003, 12, 0xA5C30000, 12" = some ⟨0x00030001, 0x000C000C, 0xA5C30000⟩ ∧
      Asm.packet "SET_DCO 44100, 500" = some ⟨0x00000003, 0x0000AC44, 0x000001F4⟩ ∧
      Asm.packet "SET_DETUNE -200" = some ⟨0x00000004, 0x0000FF38, 0⟩ ∧
      Asm.packet "GET_SPEED_MODE" = some ⟨0x0000000B, 0, 0⟩ := by decide

theorem test_assemble_truncates_detune : -- R62: W1 = trunc_16(cents), for cents outside i16 too
    Asm.packet "SET_DETUNE 40000" = some ⟨0x00000004, 0x00009C40, 0⟩ ∧
      Asm.packet "SET_DETUNE -65436" = some ⟨0x00000004, 0x00000064, 0⟩ ∧
      Asm.packet "SET_CLOCK_SOURCE 256" = none := by decide

theorem test_assemble_pseudo :
    Asm.packet "SPI_WRITE 0x0005, 8, 0xDE000000" = some ⟨0x00050001, 0x00000008, 0xDE000000⟩ ∧
      Asm.packet "SPI_READ 0x0003, 9" = some ⟨0x00030001, 0x00090000, 0⟩ ∧
      Asm.packet "SET_FREQ 44100" = some ⟨0x00000003, 0x0000AC44, 0⟩ := by decide

/-! ### Operations (95_test_vectors.md V2 to V6) -/

theorem test_pack :
    pack 0xFFFFFFFF 0 = 0 ∧ pack 0xFFFFFFFF 1 = 1 ∧ pack 0xA5C30000 12 = 0xA5C ∧ pack 0x12345678 32 = 0x12345678 := by
  decide

theorem test_unpack :
    unpack 0x00000001 1 = 0x80000000 ∧ unpack 0xFFFFFA5C 12 = 0xA5C00000 ∧ unpack 0x12345678 32 = 0x12345678 ∧
      (Response.readBytes ⟨0x00030000, 0x12345000, 0⟩) = [0x12, 0x34, 0x50] := by decide

theorem test_round : -- p = 20005 (a tie at sm 4), p = 131071
    measuredHz 0x80004E25 1 = 63980 ∧ measuredHz 0x80004E25 4 = 64000 ∧ measuredHz 0x8001FFFF 2 = 9760 := by decide

theorem test_dcoWord : -- V5; its row 44100/500/2 is the value at detune +100, not 0 (log 16)
    dcoWord 44100 0 2 0 = 0x04840E17 ∧ dcoWord 44100 500 2 100 = 0x04D7800E ∧ dcoWord 48000 0 1 (-1) = 0x0274B109 ∧ dcoWord 192000 0 4 0 = 0x27525460 ∧
      dcoWord 4999999 999 1 0 = 0xFFFFFFFF ∧ dcoWord 5000000 0 1 0 = 0 := by decide

theorem test_rateMode :
    [63999, 64000, 127999, 128000].map (fun r => (rateMode params r).multiplier) = [1, 2, 2, 4] := by decide

/-! ### One step of each command -/

theorem test_transfer_reads_back : -- Program 3, step 1
    shown (stepOn [1, 1, 0xA5C] ⟨0x00030001, 0x000C000C, 0xA5C30000⟩ start) =
      some ([.read 0 1, .write 4 3, .write 8 12, .write 12 12, .write 16 0xA5C, .read 0 1, .read 16 0xA5C],
        ⟨0x00020000, 0xA5C00000, 0⟩) := by decide

theorem test_transfer_never_ready : -- Ex5
    ((stepOn (List.replicate 20 0) ⟨0x00010001, 0x00080008, 0xAA000000⟩ start).map
      fun t => (t.trace.length, t.rsp, t.answers)) = some (46, ⟨0x00000101, 0, 0⟩, []) := by decide

theorem test_measure : -- Program 4, step 1
    shown (stepOn [0, 0, 0x80006829] ⟨0x00000002, 0x00000002, 0⟩ { start with S := { start.S with speedMode := .normal } }) =
      some ([.write 20 2, .read 24 0, .delay, .read 24 0, .delay, .read 24 0x80006829], ⟨0, 48000, 0⟩) := by decide

theorem test_measure_no_signal : -- V4, MEASURE 10
    ((stepOn (List.replicate 5 0x7FFFFFFF) ⟨0x00000002, 0x0000000A, 0⟩ start).map
      fun t => (t.trace.length, t.trace.head?, t.rsp)) = some (11, some (.write 20 2), ⟨0, 0, 0⟩) := by decide

theorem test_setDco : -- V5
    shown (stepOn [] ⟨0x00000003, 0x0000BB80, 999⟩ start) = some ([.write 28 0x027528A0], ⟨0, 0x027528A0, 0⟩) := by decide

theorem test_setDco_refused : -- Program 5, step 1
    shown (stepOn [] ⟨0x00000003, 0x0000BB80, 1000⟩ start) = some ([], ⟨5, 0, 0⟩) := by decide

theorem test_setDetune : -- V5
    shown (stepOn [] ⟨0x00000004, 0x0000FF38, 0⟩ start) = some ([.write 28 0x021A5612], ⟨0, 0x021A5612, 0⟩) := by decide

theorem test_setDetune_refused : -- V1, V5
    shown (stepOn [] ⟨0x00000004, 0x00008000, 0⟩ start) = some ([], ⟨5, 0, 0⟩) := by decide

theorem test_setClockSource : -- Program 5, step 4
    ((stepOn [] ⟨0x00000005, 0x00000007, 0⟩ start).map fun t => (t.trace, t.rsp, t.S.clockSource)) =
      some ([.write 40 7], ⟨0, 7, 0⟩, 7) := by decide

theorem test_setSpeedMode : -- V6, detune 100 kept
    shown (stepOn [] ⟨0x00000006, 0x00000002, 0⟩ { start with S := { start.S with detune := 100 } }) =
      some ([.write 32 0xC0DE, .write 36 1, .write 28 0x054519C0], ⟨0, 0x054519C0, 2⟩) := by decide

theorem test_setSpeedMode_above_maximum : -- Ex4
    shown (stepOn [] ⟨0x00000006, 0x00000004, 0⟩ start) = some ([], ⟨2, 0, 0⟩) := by decide

theorem test_configureRate : -- Program 2, step 2
    ((stepOn [] ⟨0x00000007, 0x00017700, 0⟩ { start with S := { start.S with detune := 100 } }).map
      fun t => (t.trace, t.rsp, t.S.detune)) =
      some ([.write 32 0xC0DE, .write 36 1, .write 28 0x054519C0, .write 28 0x09D49518], ⟨0, 0x09D49518, 2⟩, 0) := by decide

theorem test_configureRate_too_high : -- V6
    shown (stepOn [] ⟨0x00000007, 0x0002EE00, 0⟩ start) = some ([], ⟨3, 0, 0⟩) := by decide

theorem test_getDco : shown (stepOn [] ⟨0x0000FFF8, 0xDEADBEEF, 0⟩ start) = some ([], ⟨0, 0x0000BB80, 0⟩) := by decide

theorem test_getDetune : -- V5
    shown (stepOn [] ⟨0x00000009, 0, 0⟩ { start with S := { start.S with detune := -200 } }) =
      some ([], ⟨0, 0xFFFFFF38, 0⟩) := by decide

theorem test_getClockSource : -- Program 5, step 8
    shown (stepOn [] ⟨0x0000000A, 0, 0⟩ { start with S := { start.S with clockSource := 2 } }) = some ([], ⟨0, 2, 2⟩) := by
  decide

theorem test_getClockSource_unmapped : -- Program 5, step 5
    shown (stepOn [] ⟨0x0000000A, 0, 0⟩ { start with S := { start.S with clockSource := 7 } }) = some ([], ⟨4, 0, 0⟩) := by
  decide

theorem test_getSpeedMode : shown (stepOn [] ⟨0x0000000B, 0, 0⟩ start) = some ([], ⟨0, 1, 0⟩) := by decide

theorem test_reserved : -- Program 5, step 3
    shown (stepOn [] ⟨0x0000000C, 0, 0⟩ start) = some ([], ⟨6, 0, 0⟩) := by decide

theorem test_first_step_after_reset : -- every command, and a reserved packet, runs as the first one after reset
    [0, 1, 2, 3, 4, 5, 6, 7, 8, 9, 10, 11, 12].all (fun w => (nextOf (step (State.reset.withFetchWord 96 w))).isSome) = true := by
  decide

theorem test_table_word : -- W1 is bits 63..32 of the table's number
    decodeTableWord 64 0x0000006400000004 = some (.setDetune 100) ∧ decodeTableWord 8 0x04 = some (.setDetune 0) := by
  decide

/-! ### Witnesses: concrete states and operands that meet the hypotheses of each statement -/

/-- A command accepted, a number of transitions into it. -/
def midway (n : Nat) (answers : List Word) (p : Packet) : State :=
  microRun n (accept p { start with answers := answers })

/-- A TRANSFER that reads 12 bits. -/
def transfer12 : Packet := ⟨0x00030001, 0x000C000C, 0xA5C30000⟩

/-- A state in which the old response, the old trace and the hidden state are stale. -/
def stale : State :=
  { start with
    rsp := ⟨5, 0, 0⟩, done := true, trace := [.delay],
    hid := { cmd := transfer12, seq := .idle, tries := 7, latch := 9, prepollTimeout := false, pendingDco := 3 } }

theorem witness_DecodeOfEncodeIsTheCommand :
    Instr.WellFormed (.setDetune (-32768)) = true ∧ Instr.WellFormed (.setDetune 32767) = true ∧
      Instr.WellFormed (.transfer 0xFFFF 0xFFFF 0xFFFFFFFF 0xFFFF) = true := by decide

theorem witness_OnlyNamedFieldsDecide : -- two packets that differ in ignored bits only
    decode ⟨0x00000004, 0x00000064, 0⟩ = .ok (.setDetune 100) ∧
      (0xFFFFFFF4 : Word) &&& 0x0000000F = 0x00000004 &&& 0x0000000F ∧
      (0xFFFF0064 : Word) &&& 0x0000FFFF = 0x00000064 &&& 0x0000FFFF ∧
      decode ⟨0xFFFFFFF4, 0xFFFF0064, 0xFFFFFFFF⟩ = .ok (.setDetune 100) := by decide

theorem witness_ReservedOpcodesAreExactlyThese :
    [(0 : Word), 1, 11, 12, 15].map (fun w => decide (w.toNat % 16 = 0 ∨ 12 ≤ w.toNat % 16)) =
      [true, false, false, true, true] := by decide

theorem witness_AssembledLinesDecode :
    AsmLine.WellFormed (.setDetune (-32768)) = true ∧ AsmLine.WellFormed (.setDetune 32768) = true ∧
      AsmLine.WellFormed (.setDetune (-32769)) = true ∧ AsmLine.WellFormed (.spiWrite 65535 65535 4294967295) = true ∧
      AsmLine.WellFormed (.spiRead 0 65535) = true ∧ AsmLine.WellFormed (.setFreq 4294967295) = true := by decide

theorem witness_StepRunsTheOfferedCommand :
    (offering [1, 1, 0xA5C] transfer12 start).resetIn = none ∧ (offering [1, 1, 0xA5C] transfer12 start).busy = false ∧
      (offering [1, 1, 0xA5C] transfer12 start).offers = [transfer12] ∧
      decode transfer12 = .ok (.transfer 3 12 0xA5C30000 12) := by decide

theorem witness_ReservedPacketIsAnsweredIllegal :
    (offering [] ⟨0xC, 0, 0⟩ start).resetIn = none ∧ (offering [] ⟨0xC, 0, 0⟩ start).busy = false ∧
      [(0x0 : Word), 0xC, 0xD, 0xE, 0xF].map (fun w => Packet.opc ⟨w, 0, 0⟩) = [0x0, 0xC, 0xD, 0xE, 0xF] := by decide

theorem witness_IdleEngineWaits : start.resetIn = none ∧ start.busy = false ∧ start.offers = [] := by decide

theorem witness_BusyPortHoldsTheOffer : (midway 3 [1] transfer12).busy = true := by decide

theorem witness_ResponseIsStaleWhileBusy : -- idle with a packet offered, and in a command
    (offering [] transfer12 stale).busy = false ∧ (midway 3 [1] transfer12).busy = true ∧
      (advance (midway 3 [1] transfer12)).busy = true := by decide

theorem witness_DoneStaysUntilReset : -- the two clauses
    stale.done = true ∧ (midway 8 [1, 1, 0xA5C] transfer12).busy = true ∧
      (advance (midway 8 [1, 1, 0xA5C] transfer12)).busy = false := by decide

theorem witness_StepIsTheSequencersRun :
    (offering [] ⟨7, 96000, 0⟩ stale).resetIn = none ∧ (offering [] ⟨7, 96000, 0⟩ stale).busy = false ∧
      (offering [] ⟨7, 96000, 0⟩ stale).offers = [⟨7, 96000, 0⟩] := by decide

theorem witness_CommandInProgressReachesItsResponse : -- at the first transition, and in the tenth failed try
    Coherent (midway 0 [] transfer12) = true ∧ (midway 0 [] transfer12).busy = true ∧
      Coherent (midway 20 (List.replicate 10 0) transfer12) = true ∧
      (midway 20 (List.replicate 10 0) transfer12).busy = true := by decide

theorem witness_PollIsBounded : -- ready at the last try, and a timeout
    (pollReady .meas measReady 5 { start with answers := [0, 0, 0, 0, 0x80000000] }).1 = .ready 0x80000000 ∧
      (pollReady .meas measReady 5 { start with answers := [0, 0, 0, 0, 0, 0x80000000] }).1 = .timeout := by decide

theorem witness_MemAccessIsRegisterAccess : (3 : Nat) ≠ 4 ∧ (5 : Nat) ≠ 4 := by decide

theorem witness_ReadinessTestsReadOnlyTheirBits :
    (0xFFFFFFFF : Word) &&& params.busReadyMask = 0x00000001 &&& params.busReadyMask ∧
      Params.busReadyMask { params with busReadyMask := 0xFFFFFFFF } = 0xFFFFFFFF ∧
      (0xFFFC0007 : Word) &&& 0x0003FFFF = 0x00000007 &&& 0x0003FFFF := by decide

theorem witness_TransferFollowsItsAlgorithm : -- both guards at their boundaries, a pre-poll that fails and one that passes
    start.hid.prepollTimeout = false ∧
      [(0 : Half), 1, 32, 33].map (fun n => decide (1 ≤ n.toNat ∧ n.toNat ≤ 32)) = [false, true, true, false] ∧
      [(0 : Half), 32, 33].map (fun n => decide (n.toNat ≤ 32)) = [true, true, false] ∧
      (pollReady .busStatus (busReady params) 10 { start with answers := List.replicate 10 0 }).1 = .timeout ∧
      (pollReady .busStatus (busReady params) 10 { start with answers := [1] }).1 = .ready 1 := by decide

theorem witness_PackPlacesTheFirstBits : (0 : Nat) ≤ 32 ∧ (1 : Nat) ≤ 1 ∧ (32 : Nat) ≤ 32 := by decide

theorem witness_UnpackLeftAlignsTheRead :
    (1 : Nat) ≤ 1 ∧ (1 : Nat) ≤ 32 ∧ (32 : Nat) ≤ 32 ∧ byteCount 1 ≤ 1 ∧ byteCount 1 ≤ 3 ∧ (3 : Nat) < 4 := by decide

theorem witness_LoopbackReturnsThePayload : -- n = 1 and n = 32; the device answers what was written
    start.hid.prepollTimeout = false ∧ busReady start.cfg.params 1 = true ∧
      ((stepOn [1, 1, 1] ⟨0x00030001, 0x00010001, 0xFFFFFFFF⟩ start).map fun t => lastWrite 16 t.trace) = some (some 1) ∧
      ((stepOn [1, 1, 0x12345678] ⟨0x00030001, 0x00200020, 0x12345678⟩ start).map fun t => lastWrite 16 t.trace) =
        some (some 0x12345678) := by decide

theorem witness_NeverReadyBusTimesOut :
    start.hid.prepollTimeout = false ∧ (List.replicate 10 (0 : Word)).length = 10 ∧
      busReady start.cfg.params 0 = false ∧ 1 ≤ (8 : Half).toNat ∧ (8 : Half).toNat ≤ 32 := by decide

theorem witness_MeasureFollowsItsAlgorithm : -- a timeout, and a result at the fifth read
    (pollReady .meas measReady 5 { start with answers := List.replicate 5 0x7FFFFFFF }).1 = .timeout ∧
      (pollReady .meas measReady 5 { start with answers := [0, 0, 0, 0, 0xC0007160] }).1 = .ready 0xC0007160 := by decide

theorem witness_RoundingIsToTheNearestMultiple : -- below, at and above half a step, and the last remainder
    (4 : Nat) < 10 * SpeedMode.slow.multiplier ∧ (5 : Nat) < 10 * SpeedMode.slow.multiplier ∧
      (39 : Nat) < 10 * SpeedMode.fast.multiplier := by decide

theorem witness_DividerWordClosedForm : (-200 : Int) ≤ -200 ∧ (200 : Int) ≤ 200 := by decide

theorem witness_DetuneCorrectionKeepsTheSign : (0 : Int) ≤ 0 ∧ (0 : Int) < 1 ∧ (-200 : Int) ≤ -200 ∧ (200 : Int) ≤ 200 := by
  decide

theorem witness_DividerWordFitsBelowTheBound : -- the last frequency below the bound, and the first at it
    (1000 * 4999999 + 999) * SpeedMode.slow.multiplier < 5000000000 ∧
      ¬ ((1000 * 5000000 + 0) * SpeedMode.slow.multiplier < 5000000000) := by decide

theorem witness_DividerWordIsMonotone :
    (4999998 : Nat) < 4999999 ∧ 1000 * 4999999 * SpeedMode.slow.multiplier < 5000000000 ∧
      1000 * 1249999 * SpeedMode.fast.multiplier < 5000000000 := by decide

theorem witness_SetDcoProgramsTheDivider : -- both clauses at their boundaries
    (0 : Word).toNat ≤ 999 ∧ (999 : Word).toNat ≤ 999 ∧ 999 < (1000 : Word).toNat := by decide

theorem witness_SetDetuneReprogramsTheDivider : -- both clauses at their boundaries
    ((-200 : Int) ≤ -200 ∧ (-200 : Int) ≤ 200) ∧ ((-200 : Int) ≤ 200 ∧ (200 : Int) ≤ 200) ∧
      ((-201 : Int) < -200 ∧ (200 : Int) < 201) := by decide

theorem witness_GettersAnswerTheStoredFields : -- each clause
    (48000 : Word) = start.S.dco ∧ (0 : Word) = start.S.dcoMillis ∧
      (0xFFFFFF38 : Word).toInt = (Stored.detune { start.S with detune := -200 }).toInt ∧
      (4 : Word).toNat = SpeedMode.fast.multiplier := by decide

theorem witness_GetClockSourceNormalizes : -- each kind of source, and a code outside the map
    (0, .internal) ∈ params.clockSourceMap ∧ (1, .syncBus) ∈ params.clockSourceMap ∧
      (2, .inputPort 1) ∈ params.clockSourceMap ∧ (params.clockSourceMap.all fun e => e.1 != 7) = true := by decide

theorem witness_SetSpeedModeReprogramsTheDivider : -- the three codes, the maximum itself, illegal codes, one above the maximum
    (1 : Byte).toNat = SpeedMode.slow.multiplier ∧ (2 : Byte).toNat = SpeedMode.normal.multiplier ∧
      (4 : Byte).toNat = SpeedMode.fast.multiplier ∧
      SpeedMode.normal.multiplier ≤ start.cfg.params.maxSpeedMode.multiplier ∧
      SpeedMode.fast.multiplier ≤ (Params.maxSpeedMode { params with maxSpeedMode := .fast }).multiplier ∧
      ((0 : Byte) ≠ 1 ∧ (0 : Byte) ≠ 2 ∧ (0 : Byte) ≠ 4) ∧ ((3 : Byte) ≠ 1 ∧ (3 : Byte) ≠ 2 ∧ (3 : Byte) ≠ 4) ∧
      start.cfg.params.maxSpeedMode.multiplier < (4 : Byte).toNat := by decide

theorem witness_RateMapFollowsTheBreakpoints :
    (63999 : Word).toNat < params.rateBreakNormal ∧ params.rateBreakNormal ≤ (64000 : Word).toNat ∧
      (127999 : Word).toNat < params.rateBreakFast ∧ params.rateBreakFast ≤ (128000 : Word).toNat ∧
      1 ≤ params.rateBreakNormal := by decide

theorem witness_ConfigureRateReprogramsTwice : -- the last rate below the second breakpoint, the first above it
    rateMode start.cfg.params 127999 = .normal ∧ rateMode start.cfg.params 0 = .slow ∧
      SpeedMode.normal.multiplier ≤ start.cfg.params.maxSpeedMode.multiplier ∧
      rateMode start.cfg.params 128000 = .fast ∧
      start.cfg.params.maxSpeedMode.multiplier < SpeedMode.fast.multiplier := by decide

theorem witness_EndToEndScenario :
    start.S.speedMode = .slow ∧ start.S.dco = 48000 ∧ start.S.dcoMillis = 0 ∧ start.S.detune = 0 ∧
      clockSourceMap start.cfg.params start.S.clockSource = some .internal ∧
      2 ≤ start.cfg.params.maxSpeedMode.multiplier ∧ start.cfg.params.rateBreakNormal ≤ 96000 ∧
      96000 < start.cfg.params.rateBreakFast ∧ start.hid.prepollTimeout = false := by decide

theorem witness_StoredFieldsHaveTheirWriters : -- a response that is not OK
    ((stepOn [] ⟨0x00000006, 0x00000004, 0⟩ start).map fun t => t.rsp.status) = some 2 := by decide

theorem witness_ErrorStatusesHaveTheirCauses : -- each status 1 to 5, from its own command
    ((stepOn (1 :: List.replicate 10 0) ⟨0x00010001, 0x00080028, 0⟩ start).map fun t => (t.rsp.status, t.trace.length)) =
        some (1, 24) ∧
      [(⟨6, 4, 0⟩ : Packet), ⟨7, 128000, 0⟩, ⟨3, 48000, 1000⟩, ⟨4, 201, 0⟩, ⟨4, 0xFF37, 0⟩, ⟨6, 0, 0⟩].map
        (fun p => (stepOn [] p start).map fun t => t.rsp.status) = [some 2, some 3, some 5, some 5, some 5, some 5] ∧
      ((stepOn [] ⟨0xA, 0, 0⟩ { start with S := { start.S with clockSource := 7 } }).map fun t => t.rsp.status) = some 4 := by
  decide

theorem witness_SameAnswersSameCommand :
    stale.cfg = start.cfg ∧ stale.S = start.S ∧ stale.hid.prepollTimeout = start.hid.prepollTimeout ∧
      stale.hid ≠ start.hid ∧ stale.trace ≠ start.trace ∧ 21 ≤ (List.replicate 21 (0 : Word)).length := by decide

theorem witness_EveryCommandIsBounded : -- a timeout, and a result
    ((stepOn (List.replicate 5 0) ⟨2, 0, 0⟩ start).map fun t => t.rsp.rsp1) = some 0 ∧
      ((stepOn [0x80000000] ⟨2, 0, 0⟩ start).map fun t => t.rsp.rsp1) = some 1280000000 := by decide

theorem witness_DcoWritersLeaveAgreement : -- a writer accepted, a writer refused, a command that writes no REG_DCO
    ((stepOn [] ⟨3, 48000, 999⟩ start).map fun t => t.rsp.status) = some 0 ∧
      ((stepOn [] ⟨3, 48000, 1000⟩ start).map fun t => t.rsp.status) = some 5 ∧
      writesDco (.setClockSource 7) = false ∧ dcoOffsetAlone start.cfg.params = true := by decide

/-- REG_DCO written with the divider word of the stored fields, nothing else done. -/
def agreed : State := { start with trace := [.write 28 0x02752546], offers := [⟨5, 7, 0⟩] }

theorem witness_StepKeepsDcoAgreement :
    dcoOffsetAlone agreed.cfg.params = true ∧ agreed.resetIn = none ∧ agreed.busy = false ∧
      lastWrite agreed.cfg.params.regDco agreed.trace = some (dcoWordOf agreed.S agreed.S.dco agreed.S.dcoMillis) := by decide

theorem witness_StepKeepsTheInvariant : -- at reset, in a command, with a reset on its way
    Coherent start = true ∧ Coherent (midway 5 [1] transfer12) = true ∧
      Coherent { midway 5 [1] transfer12 with resetIn := some 2 } = true := by decide

theorem witness_TransitionKeepsTheInvariant :
    Coherent (midway 5 [1] transfer12) = true ∧ (advance (midway 5 [1] transfer12)).busy = true := by decide

theorem witness_EveryRunEnds :
    Coherent { midway 5 [1] transfer12 with offers := [⟨3, 48000, 0⟩, ⟨0xC, 0, 0⟩] } = true ∧
      (midway 5 [1] transfer12).resetIn = none := by decide

theorem witness_ResponseWordHasItsFields : (4 : Nat) ≤ 4 ∧ stale.hid.prepollTimeout = false := by decide

theorem witness_ResetRestoresTheEngine : -- at once, and in the middle of a command
    State.resetIn { stale with resetIn := some 0 } = some 0 ∧
      State.resetIn { midway 5 [1] transfer12 with resetIn := some 3 } = some 3 := by decide

theorem witness_ResetAbandonsTheCommand : -- before the very next transition, and before the response's
    Coherent { midway 5 [1, 1, 0xA5C] transfer12 with resetIn := some 0 } = true ∧
      Coherent { midway 5 [1, 1, 0xA5C] transfer12 with resetIn := some 3 } = true ∧
      (midway 5 [1, 1, 0xA5C] transfer12).busy = true ∧
      (microRun 0 (midway 5 [1, 1, 0xA5C] transfer12)).busy = true ∧
      (microRun 3 (midway 5 [1, 1, 0xA5C] transfer12)).busy = true := by decide

theorem witness_IllFormedConfigurationIsRefused : -- one that meets every constraint, one that breaks each of two
    Params.wf params = true ∧ Params.wf { params with windowSize := 40 } = false ∧
      Params.wf { params with rateBreakFast := 64000 } = false := by decide

end Sys2Proof.Tests
end

section
/-! Which parameter sets are well-formed, and what `boot` answers (spec/00_scope.md R4, 20_memory.md R31, R34, R37;
70_reset_and_hazards.md R129). -/

namespace Sys2Proof.Proofs

open Sys2Proof Sys2Proof.Machine

/-! ### Each check of `Params.wf` as a proposition -/

theorem offsetsOk_iff (p : Params) :
    p.offsetsOk = true ↔ p.windowSize % 4 = 0 ∧ ∀ o ∈ p.offsets, o % 4 = 0 ∧ o < p.windowSize := by
  simp [Params.offsetsOk]

theorem disjointOk_iff (p : Params) :
    p.disjointOk = true ↔ ∀ o ∈ p.busOffsets, o ≠ p.regMeasSelect ∧ o ≠ p.regMeas := by
  simp [Params.disjointOk]

theorem readyOk_iff (p : Params) : p.readyOk = true ↔ p.busReadyValue &&& ~~~p.busReadyMask = 0 := by
  simp [Params.readyOk]

theorem breaksOk_iff (p : Params) : p.breaksOk = true ↔ p.rateBreakNormal < p.rateBreakFast := by
  simp [Params.breaksOk]

/-- Only a port can be out of range: the other two sources always exist (R99). -/
theorem sourceOk_iff (p : Params) (src : ClockSource) :
    p.sourceOk src = true ↔ ∀ k, src = .inputPort k → 1 ≤ k ∧ k ≤ p.inputPorts := by
  cases src <;> simp [Params.sourceOk]

theorem clockMapOk_iff (p : Params) :
    p.clockMapOk = true ↔ (p.clockSourceMap.map Prod.fst).Nodup ∧
      ∀ c k, (c, ClockSource.inputPort k) ∈ p.clockSourceMap → 1 ≤ k ∧ k ≤ p.inputPorts := by
  simp only [Params.clockMapOk, Bool.and_eq_true, decide_eq_true_eq, List.all_eq_true, sourceOk_iff]
  refine and_congr_right fun _ => ⟨fun h c k hmem => h _ hmem k rfl, ?_⟩
  rintro h ⟨c, src⟩ hmem k rfl
  exact h c k hmem

theorem wf_iff (p : Params) :
    p.wf = true ↔ p.windowSize % 4 = 0 ∧ (∀ o ∈ p.offsets, o % 4 = 0 ∧ o < p.windowSize) ∧
      (∀ o ∈ p.busOffsets, o ≠ p.regMeasSelect ∧ o ≠ p.regMeas) ∧
      p.busReadyValue &&& ~~~p.busReadyMask = 0 ∧ p.rateBreakNormal < p.rateBreakFast ∧
      (p.clockSourceMap.map Prod.fst).Nodup ∧
      (∀ c k, (c, ClockSource.inputPort k) ∈ p.clockSourceMap → 1 ≤ k ∧ k ≤ p.inputPorts) := by
  simp only [Params.wf, Bool.and_eq_true, offsetsOk_iff, disjointOk_iff, readyOk_iff, breaksOk_iff, clockMapOk_iff,
    and_assoc]

/-! ### The two answers of `boot` -/

theorem boot_of_wf {p : Params} (h : p.wf = true) : boot p = .next (State.resetWith ⟨p, h⟩) := dif_pos h

theorem boot_of_not_wf {p : Params} (h : ¬ p.wf = true) : boot p = .refused .illFormedConfiguration := dif_neg h

/-- Settles O54: the constraints written out are `Params.wf`, on which `boot` decides. -/
theorem illFormedConfigurationIsRefused : Obligations.IllFormedConfigurationIsRefused := by
  intro p
  constructor
  · intro hadm
    exact ⟨_, boot_of_wf ((wf_iff p).mpr hadm), rfl, rfl⟩
  · intro hadm
    exact boot_of_not_wf fun hwf => hadm ((wf_iff p).mp hwf)

end Sys2Proof.Proofs
end

section
/-! Two executions of one command in step (spec/00_scope.md R8): a relation of two states that every operation keeps,
and that ends in equal responses. -/

namespace Sys2Proof.Proofs

open Sys2Proof Sys2Proof.Machine

/-- Two executions, begun with the traces `a` and `b`, that cannot be told apart: they agree on the configuration, the
stored fields, the pre-poll flag, the given answers, of which at least `k` are left, and the events recorded since. -/
structure Alike (a b : List Event) (k : Nat) (s1 s2 : State) : Prop where
  cfg            : s1.cfg = s2.cfg
  S              : s1.S = s2.S
  prepollTimeout : s1.hid.prepollTimeout = s2.hid.prepollTimeout
  answers        : s1.answers = s2.answers
  enough         : k ≤ s1.answers.length
  trace          : ∃ es, s1.trace = a ++ es ∧ s2.trace = b ++ es

/-- Two executions of a command that have ended alike, the response words included. -/
structure EndAlike (a b : List Event) (t1 t2 : State) : Prop where
  alike : Alike a b 0 t1 t2
  rsp   : t1.rsp = t2.rsp

variable {a b : List Event} {k : Nat} {s1 s2 : State}

namespace Alike

/-! ### Operations that read nothing -/

theorem record (h : Alike a b k s1 s2) (e : Event) : Alike a b k (s1.record e) (s2.record e) := by
  obtain ⟨es, h1, h2⟩ := h.trace
  exact { h with trace := ⟨es ++ [e], by simp [h1], by simp [h2]⟩ }

theorem regWrite (h : Alike a b k s1 s2) (r : DevReg) (v : Word) :
    Alike a b k (regWrite r v s1) (regWrite r v s2) := by
  have hrec := h.record (.write (s1.cfg.params.offset r) v)
  rwa [show s2.record (.write (s1.cfg.params.offset r) v) = Machine.regWrite r v s2 by rw [h.cfg]; rfl] at hrec

theorem setTries (h : Alike a b k s1 s2) (n : Nat) : Alike a b k (s1.setTries n) (s2.setTries n) := { h with }

theorem flagPrepollTimeout (h : Alike a b k s1 s2) : Alike a b k s1.flagPrepollTimeout s2.flagPrepollTimeout :=
  { h with prepollTimeout := rfl }

theorem commitDetune (h : Alike a b k s1 s2) (d : Half) : Alike a b k (s1.commitDetune d) (s2.commitDetune d) :=
  { h with S := by simp [h.S] }

theorem commitClockSource (h : Alike a b k s1 s2) (c : Byte) :
    Alike a b k (s1.commitClockSource c) (s2.commitClockSource c) := { h with S := by simp [h.S] }

theorem commitSpeedMode (h : Alike a b k s1 s2) (m : SpeedMode) :
    Alike a b k (s1.commitSpeedMode m) (s2.commitSpeedMode m) := { h with S := by simp [h.S] }

theorem programDco (h : Alike a b k s1 s2) (f m : Word) : Alike a b k (programDco f m s1) (programDco f m s2) := by
  obtain ⟨es, h1, h2⟩ := h.trace
  exact { h with
    S := by simp [h.S]
    trace := ⟨es ++ [.write s1.cfg.params.regDco (dcoWordOf s1.S f m)], by simp [h1], by simp [h2, h.cfg, h.S]⟩ }

/-- The divider word is computed from what alike states share (R92). -/
theorem programDco_pendingDco (h : Alike a b k s1 s2) (f m : Word) :
    (Machine.programDco f m s1).hid.pendingDco = (Machine.programDco f m s2).hid.pendingDco := by
  simp [h.S]

/-- Where SpeedTransition has stored the new mode and not yet programmed the DCO (R102). -/
theorem storeMode (h : Alike a b k s1 s2) (m : SpeedMode) :
    Alike a b k
      ((Machine.regWrite .speedMode (modeReg m)
        (Machine.regWrite .speedClksel s1.cfg.params.clkselValue s1)).commitSpeedMode m)
      ((Machine.regWrite .speedMode (modeReg m)
        (Machine.regWrite .speedClksel s2.cfg.params.clkselValue s2)).commitSpeedMode m) := by
  rw [← h.cfg]
  exact ((h.regWrite .speedClksel _).regWrite .speedMode _).commitSpeedMode m

theorem speedTransition (h : Alike a b k s1 s2) (m : SpeedMode) :
    Alike a b k (speedTransition m s1) (speedTransition m s2) := by
  have hmode := h.storeMode m
  simp only [Machine.speedTransition, ← hmode.S]
  exact hmode.programDco _ _

theorem speedTransition_pendingDco (h : Alike a b k s1 s2) (m : SpeedMode) :
    (Machine.speedTransition m s1).hid.pendingDco = (Machine.speedTransition m s2).hid.pendingDco := by
  have hmode := h.storeMode m
  simp only [Machine.speedTransition, ← hmode.S]
  exact hmode.programDco_pendingDco _ _

/-! ### Reads and polls -/

/-- While a given answer is left, both executions read the same word. -/
theorem deviceAnswer_eq (h : Alike a b (k + 1) s1 s2) (off : Nat) : deviceAnswer off s1 = deviceAnswer off s2 := by
  have hlen := h.enough
  have hans := h.answers
  cases hs : s1.answers with
  | nil => simp [hs] at hlen
  | cons v vs => rw [Laws.deviceAnswer_cons off s1 v vs hs, Laws.deviceAnswer_cons off s2 v vs (hans ▸ hs)]

theorem regRead (h : Alike a b (k + 1) s1 s2) (r : DevReg) : Alike a b k (regRead r s1).2 (regRead r s2).2 := by
  obtain ⟨es, h1, h2⟩ := h.trace
  have henough := h.enough
  exact { h with
    answers := by simp [h.answers]
    enough := by simp; omega
    trace := ⟨es ++ [.read (s1.cfg.params.offset r) (deviceAnswer (s1.cfg.params.offset r) s1)], by simp [h1],
      by simp [h2, h.cfg, h.deviceAnswer_eq]⟩ }

theorem pollRead (h : Alike a b (k + 1) s1 s2) (r : DevReg) : Alike a b k (pollRead r s1).2 (pollRead r s2).2 :=
  { h.regRead r with }

/-- A poll of at most `n` tries, with `n` given answers to spend, has one result in both executions. -/
theorem pollLoop (r : DevReg) (test : Word → Bool) (n : Nat) (h : Alike a b (k + n) s1 s2) :
    ∃ res t1 t2, pollLoop r test n s1 = (res, t1) ∧ pollLoop r test n s2 = (res, t2) ∧ Alike a b k t1 t2 := by
  induction n generalizing s1 s2 with
  | zero => exact ⟨.timeout, s1, s2, rfl, rfl, h⟩
  | succ n ih =>
    have hread : Alike a b (k + n) (Machine.pollRead r s1).2 (Machine.pollRead r s2).2 := h.pollRead r
    rw [Laws.pollLoop_succ, Laws.pollLoop_succ, ← h.cfg, ← deviceAnswer_eq (k := k + n) h]
    by_cases hv : test (deviceAnswer (s1.cfg.params.offset r) s1) = true
    · simp only [if_pos hv]
      exact ⟨_, _, _, rfl, rfl, { hread with enough := by have := hread.enough; omega }⟩
    · simp only [if_neg hv]
      exact ih (hread.record .delay)

theorem pollReady (r : DevReg) (test : Word → Bool) (n : Nat) (h : Alike a b (k + n) s1 s2) :
    ∃ res t1 t2, pollReady r test n s1 = (res, t1) ∧ pollReady r test n s2 = (res, t2) ∧ Alike a b k t1 t2 :=
  pollLoop r test n (h.setTries 0)

/-! ### The response -/

theorem respond (h : Alike a b k s1 s2) (e : Status) (r1 r2 : Word) (n : Nat) :
    EndAlike a b (respond e r1 r2 n s1) (respond e r1 r2 n s2) where
  alike := { h with enough := Nat.zero_le _ }
  rsp := by simp [h.prepollTimeout]

theorem raise (h : Alike a b k s1 s2) (e : Status) : EndAlike a b (raise e s1) (raise e s2) := h.respond e 0 0 0

/-- A command that programs the DCO answers the word it has written. -/
theorem respondPendingDco (h : Alike a b k s1 s2) (hword : s1.hid.pendingDco = s2.hid.pendingDco) (r2 : Word) :
    EndAlike a b (Machine.respond .ok s1.hid.pendingDco r2 0 s1) (Machine.respond .ok s2.hid.pendingDco r2 0 s2) := by
  rw [← hword]
  exact h.respond .ok _ r2 0

/-! ### The parts of TRANSFER (R72) -/

theorem transferPrepoll (h : Alike a b (k + 10) s1 s2) :
    Alike a b k (transferPrepoll s1) (transferPrepoll s2) := by
  obtain ⟨res, t1, t2, h1, h2, ht⟩ := h.pollReady .busStatus (busReady s1.cfg.params) busPollTries
  simp only [Machine.transferPrepoll, ← h.cfg, h1, h2]
  cases res with
  | ready v => exact ht
  | timeout => exact ((ht.regWrite .busStatus _).record (.log .prepollTimeout)).flagPrepollTimeout

theorem transferSetup (h : Alike a b k s1 s2) (cs wbits rbits : Half) :
    Alike a b k (transferSetup cs wbits rbits s1) (transferSetup cs wbits rbits s2) :=
  ((h.regWrite .busCs _).regWrite .busWbits _).regWrite .busRbits _

theorem transferWriteData (h : Alike a b k s1 s2) (wbits : Half) (wdata : Word) :
    Alike a b k (transferWriteData wbits wdata s1) (transferWriteData wbits wdata s2) := by
  unfold Machine.transferWriteData
  split
  · exact h.regWrite .busData _
  · exact h

/-- The read half takes at most eleven answers: ten of its poll and one of the data register. -/
theorem transferRead (h : Alike a b 11 s1 s2) (rbits : Half) :
    EndAlike a b (transferRead rbits s1) (transferRead rbits s2) := by
  unfold Machine.transferRead
  split
  · obtain ⟨res, t1, t2, h1, h2, ht⟩ :=
      pollReady (k := 1) .busStatus (busReady s1.cfg.params) busPollTries h
    rw [← h.cfg, h1, h2]
    cases res with
    | timeout => exact ht.raise .timeout
    | ready v =>
      have hdata : (Machine.regRead .busData t1).1 = (Machine.regRead .busData t2).1 := by
        simp [ht.cfg, deviceAnswer_eq (k := 0) ht]
      simpa only [hdata] using (regRead (k := 0) ht .busData).respond .ok _ 0 _
  · exact h.respond .ok 0 0 0

/-! ### The other commands, on states that have accepted them -/

theorem execMeasure (h : Alike a b 5 s1 s2) (sourceIndex : Word) :
    ∃ t1 t2, execMeasure sourceIndex s1 = .next t1 ∧ execMeasure sourceIndex s2 = .next t2 ∧
      EndAlike a b t1 t2 := by
  obtain ⟨res, t1, t2, h1, h2, ht⟩ := pollReady (k := 0) .meas measReady measPollTries
    (h.regWrite .measSelect (selectWord sourceIndex))
  refine ⟨_, _, rfl, rfl, ?_⟩
  rw [h1, h2, ← h.S]
  cases res with
  | timeout => exact ht.respond .ok 0 0 0
  | ready v => exact ht.respond .ok _ 0 0

theorem execSetDco (h : Alike a b k s1 s2) (freqHz milliHz : Word) :
    ∃ t1 t2, execSetDco freqHz milliHz s1 = .next t1 ∧ execSetDco freqHz milliHz s2 = .next t2 ∧
      EndAlike a b t1 t2 := by
  refine ⟨_, _, rfl, rfl, ?_⟩
  split
  · exact (h.programDco freqHz milliHz).respondPendingDco (h.programDco_pendingDco freqHz milliHz) 0
  · exact h.raise .invalidArgument

theorem execSetDetune (h : Alike a b k s1 s2) (detune : Int) :
    ∃ t1 t2, execSetDetune detune s1 = .next t1 ∧ execSetDetune detune s2 = .next t2 ∧ EndAlike a b t1 t2 := by
  refine ⟨_, _, rfl, rfl, ?_⟩
  split
  · have hdet := h.commitDetune (BitVec.ofInt 16 detune)
    simp only [← hdet.S]
    exact (hdet.programDco _ _).respondPendingDco (hdet.programDco_pendingDco _ _) 0
  · exact h.raise .invalidArgument

theorem answerClockSource (h : Alike a b k s1 s2) :
    EndAlike a b (answerClockSource s1) (answerClockSource s2) := by
  simp only [Machine.answerClockSource, ← h.cfg, ← h.S]
  cases clockSourceMap s1.cfg.params s1.S.clockSource with
  | none => exact h.raise .invalidState
  | some src => exact h.respond .ok _ _ 0

theorem execSetSpeedMode (h : Alike a b k s1 s2) (requested : Byte) :
    ∃ t1 t2, execSetSpeedMode requested s1 = .next t1 ∧ execSetSpeedMode requested s2 = .next t2 ∧
      EndAlike a b t1 t2 := by
  refine ⟨_, _, rfl, rfl, ?_⟩
  cases modeOfCode requested with
  | none => exact h.raise .invalidArgument
  | some m =>
    simp only [← h.cfg]
    split
    · exact h.raise .noop
    · exact (h.speedTransition m).respondPendingDco (h.speedTransition_pendingDco m) (zext8 requested)

theorem execConfigureRate (h : Alike a b k s1 s2) (rate : Word) :
    ∃ t1 t2, execConfigureRate rate s1 = .next t1 ∧ execConfigureRate rate s2 = .next t2 ∧
      EndAlike a b t1 t2 := by
  refine ⟨_, _, rfl, rfl, ?_⟩
  simp only [← h.cfg]
  split
  · exact h.raise .rateTooHigh
  · have ht := (h.speedTransition (rateMode s1.cfg.params rate)).commitDetune 0
    exact (ht.programDco rate 0).respondPendingDco (ht.programDco_pendingDco rate 0) _

end Alike

/-- Every command takes states that are alike, with 21 given answers, to states that end alike; 21 is TRANSFER's
number of reads: ten, ten and one. -/
theorem exec_alike (i : Instr) (h : Alike a b 21 s1 s2) :
    ∃ t1 t2, exec i s1 = .next t1 ∧ exec i s2 = .next t2 ∧ EndAlike a b t1 t2 := by
  cases i with
  | transfer cs wbits wdata rbits =>
    exact ⟨_, _, rfl, rfl,
      ((Alike.transferPrepoll (k := 11) h).transferSetup cs wbits rbits |>.transferWriteData wbits wdata).transferRead
        rbits⟩
  | measure sourceIndex => exact Alike.execMeasure { h with enough := by have := h.enough; omega } sourceIndex
  | setDco freqHz milliHz => exact h.execSetDco freqHz milliHz
  | setDetune detune => exact h.execSetDetune detune
  | setClockSource code =>
    exact ⟨_, _, rfl, rfl, ((h.regWrite .clockSource (zext8 code)).commitClockSource code).respond .ok _ 0 0⟩
  | setSpeedMode requested => exact h.execSetSpeedMode requested
  | configureRate rate => exact h.execConfigureRate rate
  | getDco => exact ⟨_, _, rfl, rfl, by simpa only [h.S] using h.respond .ok s1.S.dco s1.S.dcoMillis 0⟩
  | getDetune => exact ⟨_, _, rfl, rfl, by simpa only [h.S] using h.respond .ok (detuneWord s1.S.detune) 0 0⟩
  | getClockSource => exact ⟨_, _, rfl, rfl, h.answerClockSource⟩
  | getSpeedMode => exact ⟨_, _, rfl, rfl, by simpa only [h.S] using h.respond .ok (modeWord s1.S.speedMode) 0 0⟩

end Sys2Proof.Proofs
end

section
/-! R8's statement, from the relation above. -/

namespace Sys2Proof.Proofs

open Sys2Proof Sys2Proof.Machine

/-- Settles O43: the two start states are alike since their own traces, and the command keeps them so. -/
theorem sameAnswersSameCommand : Obligations.SameAnswersSameCommand := by
  intro i s1 s2 hcfg hS hpre hans hlen
  have hstart : Alike s1.trace s2.trace 21 s1 s2 := ⟨hcfg, hS, hpre, hans, hlen, [], by simp, by simp⟩
  obtain ⟨t1, t2, h1, h2, hend⟩ := exec_alike i hstart
  obtain ⟨es, ht1, ht2⟩ := hend.alike.trace
  exact ⟨t1, t2, es, h1, h2, ht1, ht2, hend.rsp, hend.alike.S, hend.alike.answers⟩

end Sys2Proof.Proofs
end

section
/-! The invariant of the engine under one transition (spec/10_state.md R10, R12, R16, R17; 20_memory.md R45;
70_reset_and_hazards.md R128): a micro-operation moves within the accepted packet's pseudocode, a response leaves the
handshake idle, a reset leaves the reset values. -/

namespace Sys2Proof.Proofs

open Sys2Proof Sys2Proof.Machine Sys2Proof.Laws

/-! ### Operands -/

/-- The operands of a command are the fields of the packet it was decoded from (R50 to R56). -/
def OperandsOf (c : Packet) : Instr → Prop
  | .transfer cs wbits wdata rbits => cs = c.cs ∧ wbits = c.wbits ∧ wdata = c.w2 ∧ rbits = c.rbits
  | .measure sourceIndex => sourceIndex = c.w1
  | .setDco freqHz milliHz => freqHz = c.w1 ∧ milliHz = c.w2
  | .setDetune detune => detune = c.detune
  | .setClockSource code => code = c.code
  | .setSpeedMode code => code = c.code
  | .configureRate rate => rate = c.w1
  | .getDco => True
  | .getDetune => True
  | .getClockSource => True
  | .getSpeedMode => True

theorem operandsOf_of_decode {c : Packet} {i : Instr} (h : decode c = .ok i) : OperandsOf c i := by
  rcases decode_cases c with ⟨-, hd⟩ | ⟨-, hd⟩ | ⟨-, hd⟩ | ⟨-, hd⟩ | ⟨-, hd⟩ | ⟨-, hd⟩ | ⟨-, hd⟩ | ⟨-, hd⟩ |
    ⟨-, hd⟩ | ⟨-, hd⟩ | ⟨-, hd⟩ | ⟨-, hd⟩ <;> cases hd.symm.trans h <;> simp [OperandsOf]

theorem detuneLegal_iff (d : Int) : detuneLegal d = true ↔ -200 ≤ d ∧ d ≤ 200 := by
  rw [detuneLegal, Bool.and_eq_true, decide_eq_true_eq, decide_eq_true_eq]
  rfl

theorem readsData_iff (n : Half) : readsData n = true ↔ 1 ≤ n.toNat ∧ n.toNat ≤ 32 := by
  rw [readsData, Bool.and_eq_true, decide_eq_true_eq, decide_eq_true_eq]
  rfl

/-- A legal detune survives its cut to 16 bits (R12). -/
theorem toInt_ofInt_of_detuneLegal {d : Int} (h : detuneLegal d = true) : (BitVec.ofInt 16 d).toInt = d := by
  have range := (detuneLegal_iff d).mp h
  rw [BitVec.toInt_ofInt, Int.bmod]
  split <;> omega

/-- At most 32 bits read are at most four bytes (R59). -/
theorem byteCount_le_four {n : Half} (h : readsData n = true) : byteCount n.toNat ≤ 4 := by
  have range := (readsData_iff n).mp h
  unfold byteCount
  omega

/-- Slow is within every maximum (R10). -/
theorem slow_exceeds (max : SpeedMode) : SpeedMode.slow.exceeds max = false := by
  cases max <;> decide

/-! ### What a position says of the accepted packet -/

section
variable {p : Params} {c : Packet}

theorem transfer_of_position (h : positionOf p (decode c) .tRbits = true) :
    decode c = .ok (.transfer c.cs c.wbits c.w2 c.rbits) := by
  simp only [positionOf] at h
  split at h
  · next hd =>
    obtain ⟨rfl, rfl, rfl, rfl⟩ := operandsOf_of_decode hd
    exact hd
  · contradiction

/-- The data write is one of TRANSFER's positions, with a guard besides (R72 step 4). -/
theorem position_of_dataPosition {x : Except DecodeError Instr} (h : positionOf p x .tData = true) :
    positionOf p x .tRbits = true := by
  simp only [positionOf] at h ⊢
  split at h
  · rfl
  · contradiction

theorem readsData_of_position (h : positionOf p (decode c) .tRespondData = true) : readsData c.rbits = true := by
  simp only [positionOf] at h
  split at h
  · next hd =>
    obtain ⟨-, -, -, hrbits⟩ := operandsOf_of_decode hd
    exact hrbits ▸ h
  · contradiction

theorem millisLegal_of_position (h : positionOf p (decode c) .dWrite = true) : millisLegal c.w2 = true := by
  simp only [positionOf] at h
  split at h
  · next hd =>
    obtain ⟨-, hmillis⟩ := operandsOf_of_decode hd
    exact hmillis ▸ h
  · contradiction

theorem requested_of_position (h : positionOf p (decode c) .sMode = true) :
    ((modeOfCode c.code).getD .slow).exceeds p.maxSpeedMode = false := by
  simp only [positionOf] at h
  split at h
  · next hd =>
    rw [← show _ = c.code from operandsOf_of_decode hd]
    split at h
    · next hm => simpa [hm] using h
    · contradiction
  · contradiction

theorem mapped_of_position (h : positionOf p (decode c) .rMode = true) :
    (rateMode p c.w1).exceeds p.maxSpeedMode = false := by
  simp only [positionOf] at h
  split at h
  · next hd =>
    rw [← show _ = c.w1 from operandsOf_of_decode hd]
    simpa using h
  · contradiction

end

/-! ### The invariant inside a command -/

theorem storedOk_iff (s : State) :
    storedOk s = true ↔ s.S.speedMode.exceeds s.cfg.params.maxSpeedMode = false ∧
      millisLegal s.S.dcoMillis = true ∧ detuneLegal s.S.detune.toInt = true := by
  simp [storedOk, and_assoc]

theorem handshakeOk_iff (s : State) :
    handshakeOk s = true ↔
      (s.busy = true → positionOf s.cfg.params (decode s.hid.cmd) s.hid.seq = true) ∧
      (s.busy = false → s.hid.seq = .idle) := by
  unfold handshakeOk inProgress
  cases s.busy <;> simp

/-- What a micro-operation inside a command keeps of what the invariant reads. -/
structure Inside (s t : State) : Prop where
  cfg  : t.cfg = s.cfg
  cmd  : t.hid.cmd = s.hid.cmd
  busy : t.busy = s.busy
  done : t.done = s.done
  rsp  : t.rsp = s.rsp

section
variable {s t : State} (h : Coherent s = true) (hb : s.busy = true)
include h hb

theorem coherent_goto {q : Pos} (inside : Inside s t) (hpos : positionOf s.cfg.params (decode s.hid.cmd) q = true)
    (hstored : storedOk t = true) (htries : triesOk (t.goto q) = true) : Coherent (t.goto q) = true := by
  obtain ⟨-, -, hrsp, -⟩ := (coherent_iff s).mp h
  refine (coherent_iff _).mpr ⟨(handshakeOk_iff _).mpr ⟨fun _ => ?_, fun hbusy => ?_⟩, hstored, ?_, htries⟩
  · simpa [inside.cfg, inside.cmd] using hpos
  · simp [inside.busy, hb] at hbusy
  · simpa [responseOk, inside.done, inside.rsp] using hrsp

/-- A poll's read goes on to one of two positions, with one more read counted (R67). -/
theorem coherent_pollStep {r : DevReg} {test : Word → Bool} {onReady onFail : Pos}
    (hready : positionOf s.cfg.params (decode s.hid.cmd) onReady = true)
    (hfail : positionOf s.cfg.params (decode s.hid.cmd) onFail = true)
    (tready : triesOk ((pollRead r s).2.goto onReady) = true) (tfail : triesOk ((pollRead r s).2.goto onFail) = true) :
    Coherent (pollStep r test onReady onFail s) = true := by
  obtain ⟨-, hstored, -, -⟩ := (coherent_iff s).mp h
  simp only [pollStep]
  split
  · exact coherent_goto h hb ⟨rfl, rfl, rfl, rfl, rfl⟩ hready hstored tready
  · exact coherent_goto h hb ⟨rfl, rfl, rfl, rfl, rfl⟩ hfail hstored tfail

/-- A poll's delay goes on to the next read while the budget lasts, else to the timeout (R67). -/
theorem coherent_delayStep {T : Nat} {again onTimeout : Pos}
    (hagain : positionOf s.cfg.params (decode s.hid.cmd) again = true)
    (htimeout : positionOf s.cfg.params (decode s.hid.cmd) onTimeout = true)
    (tagain : s.hid.tries < T → triesOk (s.goto again) = true) (ttimeout : triesOk (s.goto onTimeout) = true) :
    Coherent (delayStep T again onTimeout s) = true := by
  obtain ⟨-, hstored, -, -⟩ := (coherent_iff s).mp h
  simp only [delayStep]
  split
  · next hlt => exact coherent_goto h hb ⟨rfl, rfl, rfl, rfl, rfl⟩ hagain hstored (tagain hlt)
  · exact coherent_goto h hb ⟨rfl, rfl, rfl, rfl, rfl⟩ htimeout hstored ttimeout

section
variable (hd : decode s.hid.cmd = .ok (.transfer s.hid.cmd.cs s.hid.cmd.wbits s.hid.cmd.w2 s.hid.cmd.rbits))
  (inside : Inside s t) (hstored : storedOk t = true)
include hd inside hstored

/-- The guard of the read half is what its positions ask for (R72 step 5). -/
theorem coherent_afterData : Coherent (afterData t) = true := by
  unfold afterData
  rw [inside.cmd]
  split
  · next hr =>
    have hinside : Inside s (t.setTries 0) := { inside with }
    exact coherent_goto h hb hinside (by simpa [hd, positionOf] using hr) hstored rfl
  · next hr => exact coherent_goto h hb inside (by simpa [hd, positionOf] using hr) hstored rfl

/-- The guard of the data write is what its position asks for (R72 step 4). -/
theorem coherent_afterCounts : Coherent (afterCounts t) = true := by
  by_cases hw : writesData s.hid.cmd.wbits = true
  · rw [afterCounts, inside.cmd, if_pos hw]
    exact coherent_goto h hb inside (by simpa [hd, positionOf] using hw) hstored rfl
  · rw [afterCounts, inside.cmd, if_neg hw, ← inside.cmd]
    exact coherent_afterData h hb hd inside hstored

end

/-- The first transition: the packet's checks are what its later positions ask for (R114). -/
theorem coherent_enter : Coherent (enter s) = true := by
  obtain ⟨-, hstored, -, -⟩ := (coherent_iff s).mp h
  obtain ⟨hspeed, hmillis, hdetune⟩ := (storedOk_iff s).mp hstored
  have refuse (e : Status) : Coherent (raise e s) = true :=
    coherent_respond e 0 0 0 s (by omega) (.inr ⟨rfl, rfl, rfl⟩) hstored
  have answer (r1 r2 : Word) : Coherent (respond .ok r1 r2 0 s) = true :=
    coherent_respond .ok r1 r2 0 s (by omega) (.inl rfl) hstored
  unfold enter
  cases hd : decode s.hid.cmd with
  | error e => exact refuse _
  | ok i =>
    cases i with
    | transfer cs wbits wdata rbits =>
      exact coherent_goto h hb ⟨rfl, rfl, rfl, rfl, rfl⟩ (by simp [hd, positionOf]) hstored rfl
    | measure sourceIndex =>
      exact coherent_goto h hb ⟨rfl, rfl, rfl, rfl, rfl⟩ (by simp [hd, positionOf]) hstored rfl
    | setDco f m =>
      dsimp only
      split
      · next hm => exact coherent_goto h hb ⟨rfl, by simp, rfl, rfl, rfl⟩ (by simp [hd, positionOf, hm]) hstored rfl
      · exact refuse _
    | setDetune d =>
      dsimp only
      split
      · next hlegal =>
        refine coherent_goto h hb ⟨rfl, by simp, rfl, rfl, rfl⟩ (by simp [hd, positionOf, hlegal]) ?_ rfl
        exact (storedOk_iff _).mpr ⟨hspeed, hmillis, by simpa [toInt_ofInt_of_detuneLegal hlegal] using hlegal⟩
      · exact refuse _
    | setClockSource code =>
      exact coherent_goto h hb ⟨rfl, rfl, rfl, rfl, rfl⟩ (by simp [hd, positionOf]) hstored rfl
    | setSpeedMode code =>
      dsimp only
      split
      · exact refuse _
      · next m hm =>
        split
        · exact refuse _
        · next hmax =>
          exact coherent_goto h hb ⟨rfl, rfl, rfl, rfl, rfl⟩ (by simpa [hd, positionOf, hm] using hmax) hstored rfl
    | configureRate rate =>
      dsimp only
      split
      · exact refuse _
      · next hmax =>
        exact coherent_goto h hb ⟨rfl, rfl, rfl, rfl, rfl⟩ (by simpa [hd, positionOf] using hmax) hstored rfl
    | getDco => exact answer _ _
    | getDetune => exact answer _ _
    | getClockSource =>
      dsimp only [answerClockSource]
      split
      · exact refuse _
      · exact answer _ _
    | getSpeedMode => exact answer _ _

theorem coherent_busy_microStep : Coherent (microStep s) = true := by
  obtain ⟨hhand, hstored, -, htries⟩ := (coherent_iff s).mp h
  obtain ⟨hspeed, hmillis, hdetune⟩ := (storedOk_iff s).mp hstored
  have hpos := ((handshakeOk_iff s).mp hhand).1 hb
  have answer (r1 r2 : Word) : Coherent (respond .ok r1 r2 0 s) = true :=
    coherent_respond .ok r1 r2 0 s (by omega) (.inl rfl) hstored
  unfold microStep
  cases hseq : s.hid.seq <;> simp only [hseq, triesOk, decide_eq_true_eq] at hpos htries <;> dsimp only
  case idle => contradiction
  case entry => exact coherent_enter h hb
  case tPrepollRead | tPollRead | mRead =>
    exact coherent_pollStep h hb hpos hpos rfl (decide_eq_true htries)
  case tPrepollDelay | tPollDelay | mDelay =>
    exact coherent_delayStep h hb hpos hpos decide_eq_true rfl
  case tReset | tLog | tCs | tWbits | tReadData | mSelect | cWrite | sClksel | rClksel | eWrite | sDco =>
    exact coherent_goto h hb ⟨rfl, rfl, rfl, rfl, rfl⟩ hpos hstored rfl
  case dWrite =>
    exact coherent_goto h hb ⟨rfl, rfl, rfl, rfl, rfl⟩ hpos
      ((storedOk_iff _).mpr ⟨hspeed, millisLegal_of_position hpos, hdetune⟩) rfl
  case sMode =>
    exact coherent_goto h hb ⟨rfl, by simp, rfl, rfl, rfl⟩ hpos
      ((storedOk_iff _).mpr ⟨requested_of_position hpos, hmillis, hdetune⟩) rfl
  case rMode =>
    exact coherent_goto h hb ⟨rfl, by simp, rfl, rfl, rfl⟩ hpos
      ((storedOk_iff _).mpr ⟨mapped_of_position hpos, hmillis, hdetune⟩) rfl
  case rDcoOld =>
    exact coherent_goto h hb ⟨rfl, by simp, rfl, rfl, rfl⟩ hpos
      ((storedOk_iff _).mpr ⟨hspeed, hmillis, rfl⟩) rfl
  case rDcoNew =>
    exact coherent_goto h hb ⟨rfl, rfl, rfl, rfl, rfl⟩ hpos ((storedOk_iff _).mpr ⟨hspeed, rfl, hdetune⟩) rfl
  case tRbits => exact coherent_afterCounts h hb (transfer_of_position hpos) ⟨rfl, rfl, rfl, rfl, rfl⟩ hstored
  case tData =>
    have hd := transfer_of_position (position_of_dataPosition hpos)
    exact coherent_afterData h hb hd ⟨rfl, rfl, rfl, rfl, rfl⟩ hstored
  case tRespondData =>
    exact coherent_respond .ok _ 0 _ s (byteCount_le_four (readsData_of_position hpos)) (.inl rfl) hstored
  case tRaiseTimeout => exact coherent_respond .timeout 0 0 0 s (by omega) (.inr ⟨rfl, rfl, rfl⟩) hstored
  all_goals exact answer _ _

end

/-! ### The invariant through a run -/

/-- An idle sequencer makes no transition (R125); a busy one stays within its command or answers it. -/
theorem coherent_microStep {s : State} (h : Coherent s = true) : Coherent (microStep s) = true := by
  obtain ⟨hhand, -, -, -⟩ := (coherent_iff s).mp h
  cases hb : s.busy with
  | true => exact coherent_busy_microStep h hb
  | false =>
    have hidle := ((handshakeOk_iff s).mp hhand).2 hb
    rwa [show microStep s = s from microRun_idle 1 s hidle]

theorem coherent_microRun (n : Nat) {s : State} (h : Coherent s = true) : Coherent (microRun n s) = true := by
  induction n generalizing s with
  | zero => exact h
  | succ n ih => exact ih (coherent_microStep h)

/-- An accepted packet stands at `entry`, where every packet does (R45). -/
theorem coherent_accept (p : Packet) (ps : List Packet) {s : State} (h : Coherent s = true) :
    Coherent (accept p { s with offers := ps }) = true := by
  obtain ⟨-, hstored, hrsp, -⟩ := (coherent_iff s).mp h
  exact (coherent_iff _).mpr ⟨rfl, hstored, hrsp, rfl⟩

/-- Settles O47: the mode is Slow, within every maximum, and every other value is 0 or idle. -/
theorem invariantHoldsAtReset : Obligations.InvariantHoldsAtReset := by
  intro c
  have hstored : storedOk (State.resetWith c) = true := (storedOk_iff _).mpr ⟨slow_exceeds _, rfl, rfl⟩
  have hrsp : responseOk (State.resetWith c) = true := by
    simp [responseOk, State.resetWith, Response.atReset, Response.status, Response.count]
  exact (coherent_iff _).mpr ⟨rfl, hstored, hrsp, rfl⟩

/-- A reset puts every field the invariant reads at its reset value (R126, R128). -/
theorem coherent_applyReset (s : State) : Coherent (applyReset s) = true := invariantHoldsAtReset s.cfg

theorem coherent_advance {s : State} (h : Coherent s = true) : Coherent (advance s) = true := by
  unfold advance
  split
  · exact coherent_microStep h
  · split
    · exact h
    · exact coherent_accept _ _ h

/-- Settles O49: each of the three transitions keeps the invariant, and a reset establishes it. -/
theorem transitionKeepsTheInvariant : Obligations.TransitionKeepsTheInvariant :=
  fun s h => ⟨coherent_advance h, coherent_applyReset s⟩

end Sys2Proof.Proofs
end

section
/-! What one transition of engine and host does to the handshake, the response words and the trace (spec/10_state.md
R16, R17, R18; 20_memory.md R36, R39; 70_reset_and_hazards.md R126, R131). -/

namespace Sys2Proof.Proofs

open Sys2Proof Sys2Proof.Machine Sys2Proof.Laws

/-! ### The transition of engine and host by cases (R45) -/

theorem advance_of_busy {s : State} (h : s.busy = true) : advance s = microStep s := if_pos h

theorem advance_of_nothing_offered {s : State} (h : s.busy = false) (ho : s.offers = []) : advance s = s := by
  simp [advance, h, ho]

theorem advance_of_offer {s : State} {p : Packet} {ps : List Packet} (h : s.busy = false) (ho : s.offers = p :: ps) :
    advance s = accept p { s with offers := ps } := by
  simp [advance, h, ho]

/-- While the engine is idle, no transition publishes a response (R45). -/
theorem advance_of_idle {s : State} (h : s.busy = false) :
    (advance s).rsp = s.rsp ∧ (advance s).done = s.done ∧ (advance s).cfg = s.cfg ∧ (advance s).trace = s.trace := by
  cases ho : s.offers with
  | nil => simp [advance_of_nothing_offered h ho]
  | cons p ps => simp [advance_of_offer h ho]

/-- Settles O10: of the transitions only a response, which makes `busy` 0, changes the response words. -/
theorem responseIsStaleWhileBusy : Obligations.ResponseIsStaleWhileBusy := by
  intro s h
  cases hb : s.busy with
  | false =>
    obtain ⟨hrsp, hdone, -, -⟩ := advance_of_idle hb
    exact ⟨hrsp, hdone, nofun⟩
  | true =>
    have hbusy : (advance s).busy = true := h.resolve_left (by simp [hb])
    rw [advance_of_busy hb] at hbusy ⊢
    rcases (frame_microStep s).handshake with ⟨-, hdone, hrsp⟩ | ⟨hidle, -⟩
    · exact ⟨hrsp, hdone, fun _ => by simp [responseValid, hbusy]⟩
    · simp [hidle] at hbusy

/-- Settles O11: a transition keeps the handshake or is a response, which sets `done` and records nothing. -/
theorem doneStaysUntilReset : Obligations.DoneStaysUntilReset := by
  intro s
  cases hb : s.busy with
  | false =>
    obtain ⟨-, hdone, -, -⟩ := advance_of_idle hb
    exact ⟨hdone.trans, nofun⟩
  | true =>
    rw [advance_of_busy hb]
    rcases (frame_microStep s).handshake with ⟨hbusy, hdone, -⟩ | ⟨-, hdone, -, htrace, -, -⟩
    · exact ⟨hdone.trans, fun _ hidle => by simp [hbusy, hb] at hidle⟩
    · exact ⟨fun _ => hdone, fun _ _ => ⟨hdone, htrace⟩⟩

/-! ### At most one micro-operation a transition (R17) -/

/-- `t` is `s` after at most one micro-operation. -/
def AtMostOne (s t : State) : Prop :=
  ∃ es : List Event, t.trace = s.trace ++ es ∧ es.length ≤ 1 ∧ Answered s t es

section
variable {s t : State}

theorem AtMostOne.silent (htrace : t.trace = s.trace) (hanswers : t.answers = s.answers) (hdraws : t.draws = s.draws) :
    AtMostOne s t :=
  ⟨[], by simpa using htrace, Nat.zero_le _, Answered.of_no_reads hanswers hdraws rfl⟩

theorem AtMostOne.record {e : Event} (htrace : t.trace = s.trace ++ [e]) (hanswers : t.answers = s.answers)
    (hdraws : t.draws = s.draws) (hread : readValues [e] = []) : AtMostOne s t :=
  ⟨[e], htrace, le_refl _, Answered.of_no_reads hanswers hdraws hread⟩

theorem AtMostOne.read {off : Nat} (htrace : t.trace = s.trace ++ [.read off (deviceAnswer off s)])
    (hanswers : t.answers = s.answers.tail) (hdraws : t.draws = s.draws + 1) : AtMostOne s t :=
  ⟨_, htrace, le_refl _, Answered.of_read hanswers hdraws rfl⟩

end

theorem atMostOne_respond (e : Status) (r1 r2 : Word) (n : Nat) (s : State) : AtMostOne s (respond e r1 r2 n s) :=
  .silent rfl rfl rfl

theorem atMostOne_pollStep (r : DevReg) (test : Word → Bool) (p q : Pos) (s : State) :
    AtMostOne s (pollStep r test p q s) := by
  simp only [pollStep]
  split <;> exact .read rfl rfl rfl

theorem atMostOne_delayStep (T : Nat) (p q : Pos) (s : State) : AtMostOne s (delayStep T p q s) := by
  simp only [delayStep]
  split <;> exact .record rfl rfl rfl rfl

/-- The first transition makes no access: it checks operands, or answers at once (R114). -/
theorem atMostOne_enter (s : State) : AtMostOne s (enter s) := by
  unfold enter answerClockSource
  repeat' split
  all_goals exact .silent rfl rfl rfl

theorem atMostOne_microStep (s : State) : AtMostOne s (microStep s) := by
  unfold microStep
  cases s.hid.seq <;> dsimp only
  case idle => exact .silent rfl rfl rfl
  case entry => exact atMostOne_enter s
  case tPrepollRead | tPollRead | mRead => exact atMostOne_pollStep ..
  case tPrepollDelay | tPollDelay | mDelay => exact atMostOne_delayStep ..
  case tReadData => exact .read rfl rfl rfl
  case tRbits =>
    unfold afterCounts
    repeat' split
    all_goals exact .record rfl rfl rfl rfl
  case tData =>
    unfold afterData
    split <;> exact .record rfl rfl rfl rfl
  case tReset | tLog | tCs | tWbits | mSelect | dWrite | eWrite | cWrite => exact .record rfl rfl rfl rfl
  case sClksel | sMode | sDco | rClksel | rMode | rDcoOld | rDcoNew => exact .record rfl rfl rfl rfl
  all_goals exact atMostOne_respond ..

/-- Settles O12: position by position, a transition is silent, records one event that reads nothing, or makes one
read. -/
theorem oneMicroOperationAtATime : Obligations.OneMicroOperationAtATime := atMostOne_microStep

/-! ### A reset on its way (R126, R128) -/

theorem advance_keeps_cfg (s : State) : (advance s).cfg = s.cfg := by
  cases hb : s.busy with
  | false =>
    obtain ⟨-, -, hcfg, -⟩ := advance_of_idle hb
    exact hcfg
  | true => rw [advance_of_busy hb, (frame_microStep s).cfg]

/-- Nothing recorded is ever taken back (R128). -/
theorem trace_prefix_advance (s : State) : s.trace <+: (advance s).trace := by
  cases hb : s.busy with
  | false =>
    obtain ⟨-, -, -, htrace⟩ := advance_of_idle hb
    rw [htrace]
  | true =>
    obtain ⟨es, htrace, -⟩ := atMostOne_microStep s
    rw [advance_of_busy hb, htrace]
    exact List.prefix_append ..

theorem advanceRun_keeps_cfg (n : Nat) (s : State) : (advanceRun n s).cfg = s.cfg := by
  induction n generalizing s with
  | zero => rfl
  | succ n ih => exact (ih (advance s)).trans (advance_keeps_cfg s)

theorem trace_prefix_advanceRun (n : Nat) (s : State) : s.trace <+: (advanceRun n s).trace := by
  induction n generalizing s with
  | zero => exact List.prefix_refl _
  | succ n ih => exact (trace_prefix_advance s).trans (ih (advance s))

theorem step_of_reset {s : State} {k : Nat} (h : s.resetIn = some k) :
    step s = .next (applyReset (advanceRun k s)) := by
  simp [step, stepWith, h]

/-- Settles O52: the step is the reset of the state after `k` transitions, which keep the configuration. -/
theorem resetRestoresTheEngine : Obligations.ResetRestoresTheEngine := by
  intro s k h
  refine ⟨_, step_of_reset h, rfl, ?_, rfl, rfl, ?_, rfl, rfl, rfl, rfl, trace_prefix_advanceRun k s,
    advanceRun_keeps_cfg k s, rfl, rfl, rfl⟩
  · simp [Stored.atReset, advanceRun_keeps_cfg]
  · simp [Stored.atReset, advanceRun_keeps_cfg]

end Sys2Proof.Proofs
end

section
/-! The two views of a command agree (spec/10_state.md R17, 40_register_port.md R70): the meaning `exec` gives it at
once is where the sequencer's walk through its pseudocode ends. -/

namespace Sys2Proof.Proofs

open Sys2Proof Sys2Proof.Machine Sys2Proof.Laws

/-! ### Walks -/

theorem reach_mono {m n : Nat} {s t : State} (h : Reach m s t) (hmn : m ≤ n) : Reach n s t := by
  obtain ⟨k, hk, hrun⟩ := h
  exact ⟨k, hk.trans hmn, hrun⟩

theorem reach_run (n : Nat) (s : State) : Reach n s (microRun n s) := ⟨n, le_refl _, rfl⟩

theorem microStep_of_entry {s : State} (h : s.hid.seq = .entry) : microStep s = enter s := by
  simp [microStep, h]

/-- A command's run is its first transition and the walk from there to the response. -/
theorem finish_of_enter {n : Nat} {s u t : State} (hseq : s.hid.seq = .entry) (henter : enter s = u)
    (hwalk : Reach n u t) (hn : n ≤ 47) (hidle : t.hid.seq = .idle) : finish s = t :=
  ((Reach.one ((microStep_of_entry hseq).trans henter)).trans hwalk).finish (by unfold commandBound; omega) hidle

/-- A command that answers at its first transition has ended there (R114). -/
theorem finish_of_response {s t : State} (hseq : s.hid.seq = .entry) (henter : enter s = t)
    (hidle : t.hid.seq = .idle) : finish s = t :=
  finish_of_enter hseq henter (reach_run 0 t) (by omega) hidle

theorem answerClockSource_idle (s : State) : (answerClockSource s).hid.seq = .idle := by
  unfold answerClockSource
  split <;> rfl

/-! ### Polls -/

/-- A poll keeps all but the trace, the answers, the latch and the counter, and latches the word that passed (R67). -/
theorem pollReady_keeps {r : DevReg} {test : Word → Bool} {T : Nat} {s t : State} {res : PollResult}
    (h : pollReady r test T s = (res, t)) : Polled s t ∧ ∀ v, res = .ready v → t.hid.latch = v := by
  obtain ⟨-, -, -, -, -, hlatch, -, hpolled⟩ := pollLoop_spec r test T (s.setTries 0)
  rw [show pollLoop r test T (s.setTries 0) = (res, t) from h] at hlatch hpolled
  exact ⟨{ hpolled with }, hlatch⟩

/-- A poll walked transition by transition ends where the whole poll does. -/
theorem pollReady_reach (r : DevReg) (test : Word → Bool) (T : Nat) (pr pd pok pto : Pos) (s : State)
    (h1 : ∀ u : State, u.cfg = s.cfg → u.hid.seq = pr → microStep u = pollStep r test pok pd u)
    (h2 : ∀ u : State, u.hid.seq = pd → microStep u = delayStep T pr pto u) (hT : 1 ≤ T) :
    Reach (pollCost T (pollReady r test T s).1) ((s.setTries 0).goto pr) (pollEnd pok pto (pollReady r test T s)) := by
  obtain ⟨n, rfl⟩ : ∃ n, T = n + 1 := ⟨T - 1, by omega⟩
  have hwalk := poll_reach r test (n + 1) pr pd pok pto s.cfg h1 h2 n ((s.setTries 0).goto pr) rfl rfl (by simp)
  rwa [pollLoop_goto, pollEnd_goto] at hwalk

/-! ### TRANSFER (R72) -/

theorem transferPrepoll_keeps_cmd (s : State) : (transferPrepoll s).hid.cmd = s.hid.cmd := by
  rcases hp : pollReady .busStatus (busReady s.cfg.params) busPollTries s with ⟨res, t⟩
  obtain ⟨hpolled, -⟩ := pollReady_keeps hp
  rw [transferPrepoll, hp]
  cases res with
  | ready v => exact hpolled.cmd
  | timeout => exact hpolled.cmd

theorem reach_transferPrepoll (s : State) :
    Reach 22 ((s.setTries 0).goto .tPrepollRead) ((transferPrepoll s).goto .tCs) := by
  have hwalk := pollReady_reach .busStatus (busReady s.cfg.params) busPollTries .tPrepollRead .tPrepollDelay .tCs
    .tReset s (fun u hc hq => by simp [microStep, hq, hc]) (fun u hq => by simp [microStep, hq]) (by decide)
  rcases hp : pollReady .busStatus (busReady s.cfg.params) busPollTries s with ⟨res, t⟩
  obtain ⟨hpolled, -⟩ := pollReady_keeps hp
  rw [hp] at hwalk
  rw [transferPrepoll, hp]
  cases res with
  | ready v => exact reach_mono hwalk (show 19 ≤ 22 by omega)
  | timeout =>
    dsimp only
    rw [← hpolled.cfg]
    exact hwalk.trans (reach_run 2 (t.goto .tReset))

section
variable {c : Packet} {s : State} (hcmd : s.hid.cmd = c)
include hcmd

theorem reach_transferSetup : Reach 3 (s.goto .tCs) (afterCounts (transferSetup c.cs c.wbits c.rbits s)) := by
  subst hcmd
  let s1 := regWrite .busCs (zext16 s.hid.cmd.cs) s
  let s2 := regWrite .busWbits (zext16 s.hid.cmd.wbits) s1
  have h1 : Reach 1 (s.goto .tCs) (s1.goto .tWbits) := Reach.one rfl
  have h2 : Reach 1 (s1.goto .tWbits) (s2.goto .tRbits) := Reach.one rfl
  have h3 : Reach 1 (s2.goto .tRbits) (afterCounts (regWrite .busRbits (zext16 s.hid.cmd.rbits) s2)) := Reach.one rfl
  exact (h1.trans h2).trans h3

theorem reach_transferWriteData : Reach 1 (afterCounts s) (afterData (transferWriteData c.wbits c.w2 s)) := by
  subst hcmd
  unfold afterCounts transferWriteData
  split
  · exact reach_run 1 (s.goto .tData)
  · exact ⟨0, Nat.zero_le _, rfl⟩

theorem reach_transferRead : Reach 21 (afterData s) (transferRead c.rbits s) := by
  subst hcmd
  unfold afterData transferRead
  split
  · have hwalk := pollReady_reach .busStatus (busReady s.cfg.params) busPollTries .tPollRead .tPollDelay .tReadData
      .tRaiseTimeout s (fun u hc hq => by simp [microStep, hq, hc]) (fun u hq => by simp [microStep, hq]) (by decide)
    rcases hp : pollReady .busStatus (busReady s.cfg.params) busPollTries s with ⟨res, t⟩
    obtain ⟨hpolled, -⟩ := pollReady_keeps hp
    rw [hp] at hwalk
    rw [← hpolled.cmd]
    cases res with
    | ready v => exact hwalk.trans (reach_run 2 (t.goto .tReadData))
    | timeout => exact hwalk.trans (reach_run 1 (t.goto .tRaiseTimeout))
  · exact reach_mono (reach_run 1 (s.goto .tRespondNoRead)) (by decide)

end

theorem transferWriteData_keeps_cmd (wbits : Half) (wdata : Word) (s : State) :
    (transferWriteData wbits wdata s).hid.cmd = s.hid.cmd := by
  unfold transferWriteData
  split <;> rfl

theorem transferRead_idle (rbits : Half) (s : State) : (transferRead rbits s).hid.seq = .idle := by
  unfold transferRead
  repeat' split
  all_goals rfl

/-- 48 transitions at the most: `entry`, 22 of the pre-poll, 3 of the setup, 1 of the data write, 21 of the read. -/
theorem finish_transfer {s : State} {c : Packet} (hcmd : s.hid.cmd = c)
    (henter : enter s = (s.setTries 0).goto .tPrepollRead) (hseq : s.hid.seq = .entry) :
    execTransfer c.cs c.wbits c.w2 c.rbits s = .next (finish s) := by
  have hpre : (transferPrepoll s).hid.cmd = c := (transferPrepoll_keeps_cmd s).trans hcmd
  have hset : (transferSetup c.cs c.wbits c.rbits (transferPrepoll s)).hid.cmd = c := hpre
  have hdata := (transferWriteData_keeps_cmd c.wbits c.w2 _).trans hset
  have hcounts := (reach_transferPrepoll s).trans (reach_transferSetup hpre)
  have hwalk := (hcounts.trans (reach_transferWriteData hset)).trans (reach_transferRead hdata)
  rw [execTransfer, Host.Outcome.next.injEq, eq_comm]
  exact finish_of_enter hseq henter hwalk (by omega) (transferRead_idle ..)

/-! ### MEASURE (R81) -/

theorem finish_measure {s : State} {c : Packet} (hcmd : s.hid.cmd = c) (henter : enter s = s.goto .mSelect)
    (hseq : s.hid.seq = .entry) : execMeasure c.w1 s = .next (finish s) := by
  subst hcmd
  have hwalk := pollReady_reach .meas measReady measPollTries .mRead .mDelay .mRespondHz .mRespondNoLock
    (regWrite .measSelect (selectWord s.hid.cmd.w1) s) (fun u _ hq => by simp [microStep, hq])
    (fun u hq => by simp [microStep, hq]) (by decide)
  rw [execMeasure, Host.Outcome.next.injEq, eq_comm]
  rcases hp : pollReady .meas measReady measPollTries (regWrite .measSelect (selectWord s.hid.cmd.w1) s) with ⟨res, t⟩
  obtain ⟨hpolled, hlatch⟩ := pollReady_keeps hp
  rw [hp] at hwalk
  have hselect := (reach_run 1 (s.goto .mSelect)).trans hwalk
  cases res with
  | ready v =>
    rw [← hlatch v rfl, ← show t.S = s.S from hpolled.S]
    exact finish_of_enter hseq henter (hselect.trans (reach_run 1 (t.goto .mRespondHz)))
      (show 1 + 9 + 1 ≤ 47 by omega) rfl
  | timeout =>
    exact finish_of_enter hseq henter (hselect.trans (reach_run 1 (t.goto .mRespondNoLock)))
      (show 1 + 10 + 1 ≤ 47 by omega) rfl

/-! ### The commands that program the DCO (R93, R94, R103, R106)

What a transition does from each position of theirs, whatever the state that stands there. -/

section
variable (u : State) {v : State} {f m : Word} {mode : SpeedMode}

theorem microStep_dWrite (hf : u.hid.cmd.w1 = f) (hm : u.hid.cmd.w2 = m) :
    microStep ((prepareDco f m u).goto .dWrite) = (programDco f m u).goto .dRespond := by
  subst hf hm
  rfl

theorem microStep_dRespond : microStep (u.goto .dRespond) = respond .ok u.hid.pendingDco 0 0 u := rfl

theorem microStep_eWrite :
    microStep ((prepareDco u.S.dco u.S.dcoMillis u).goto .eWrite) =
      (programDco u.S.dco u.S.dcoMillis u).goto .eRespond := rfl

theorem microStep_eRespond : microStep (u.goto .eRespond) = respond .ok u.hid.pendingDco 0 0 u := rfl

theorem microStep_sClksel :
    microStep (u.goto .sClksel) = (regWrite .speedClksel u.cfg.params.clkselValue u).goto .sMode := rfl

theorem microStep_sMode (hmode : requestedMode u = mode)
    (hv : (regWrite .speedMode (modeReg mode) u).commitSpeedMode mode = v) :
    microStep (u.goto .sMode) = (prepareDco v.S.dco v.S.dcoMillis v).goto .sDco := by
  subst hmode hv
  rfl

theorem microStep_sDco :
    microStep ((prepareDco u.S.dco u.S.dcoMillis u).goto .sDco) =
      (programDco u.S.dco u.S.dcoMillis u).goto .sRespond := rfl

theorem microStep_sRespond :
    microStep (u.goto .sRespond) = respond .ok u.hid.pendingDco (zext8 u.hid.cmd.code) 0 u := rfl

theorem microStep_rClksel :
    microStep (u.goto .rClksel) = (regWrite .speedClksel u.cfg.params.clkselValue u).goto .rMode := rfl

theorem microStep_rMode (hmode : mappedMode u = mode)
    (hv : (regWrite .speedMode (modeReg mode) u).commitSpeedMode mode = v) :
    microStep (u.goto .rMode) = (prepareDco v.S.dco v.S.dcoMillis v).goto .rDcoOld := by
  subst hmode hv
  rfl

theorem microStep_rDcoOld (hf : u.hid.cmd.w1 = f) (hv : (programDco u.S.dco u.S.dcoMillis u).commitDetune 0 = v) :
    microStep ((prepareDco u.S.dco u.S.dcoMillis u).goto .rDcoOld) = (prepareDco f 0 v).goto .rDcoNew := by
  subst hf hv
  rfl

theorem microStep_rDcoNew (hf : u.hid.cmd.w1 = f) :
    microStep ((prepareDco f 0 u).goto .rDcoNew) = (programDco f 0 u).goto .rRespond := by
  subst hf
  rfl

theorem microStep_rRespond (hmode : mappedMode u = mode) :
    microStep (u.goto .rRespond) = respond .ok u.hid.pendingDco (modeWord mode) 0 u := by
  subst hmode
  rfl

end

section
variable {s : State} {c : Packet} (hcmd : s.hid.cmd = c) (hseq : s.hid.seq = .entry)
include hcmd hseq

theorem finish_setDco (hd : decode c = .ok (.setDco c.w1 c.w2)) : execSetDco c.w1 c.w2 s = .next (finish s) := by
  subst hcmd
  rw [execSetDco, Host.Outcome.next.injEq, eq_comm]
  split
  · next hm =>
    have hwalk := (Reach.one (microStep_dWrite s rfl rfl)).trans (Reach.one (microStep_dRespond _))
    exact finish_of_enter hseq (by simp [enter, hd, hm]) hwalk (by omega) rfl
  · next hm => exact finish_of_response hseq (by simp [enter, hd, hm]) rfl

theorem finish_setDetune (hd : decode c = .ok (.setDetune c.detune)) :
    execSetDetune c.detune s = .next (finish s) := by
  subst hcmd
  rw [execSetDetune, Host.Outcome.next.injEq, eq_comm]
  split
  · next hlegal =>
    have hwalk := (Reach.one (microStep_eWrite (s.commitDetune (BitVec.ofInt 16 s.hid.cmd.detune)))).trans
      (Reach.one (microStep_eRespond _))
    exact finish_of_enter hseq (by simp [enter, hd, hlegal]) hwalk (by omega) rfl
  · next hlegal => exact finish_of_response hseq (by simp [enter, hd, hlegal]) rfl

theorem finish_setSpeedMode (hd : decode c = .ok (.setSpeedMode c.code)) :
    execSetSpeedMode c.code s = .next (finish s) := by
  subst hcmd
  rw [execSetSpeedMode, Host.Outcome.next.injEq, eq_comm]
  split
  · next hm => exact finish_of_response hseq (by simp [enter, hd, hm]) rfl
  · next m hm =>
    split
    · next hmax => exact finish_of_response hseq (by simp [enter, hd, hm, hmax]) rfl
    · next hmax =>
      have hmode : requestedMode (regWrite .speedClksel s.cfg.params.clkselValue s) = m := by simp [requestedMode, hm]
      have hwalk := (((Reach.one (microStep_sClksel s)).trans (Reach.one (microStep_sMode _ hmode rfl))).trans
        (Reach.one (microStep_sDco _))).trans (Reach.one (microStep_sRespond _))
      exact finish_of_enter hseq (by simp [enter, hd, hm, hmax]) hwalk (by omega) rfl

theorem finish_configureRate (hd : decode c = .ok (.configureRate c.w1)) :
    execConfigureRate c.w1 s = .next (finish s) := by
  subst hcmd
  rw [execConfigureRate, Host.Outcome.next.injEq, eq_comm]
  dsimp only
  split
  · next hmax => exact finish_of_response hseq (by simp [enter, hd, hmax]) rfl
  · next hmax =>
    let mode := rateMode s.cfg.params s.hid.cmd.w1
    have hrate : ((speedTransition mode s).commitDetune 0).hid.cmd.w1 = s.hid.cmd.w1 := by simp [speedTransition]
    have hmodes := (Reach.one (microStep_rClksel s)).trans (Reach.one (microStep_rMode _ (mode := mode) rfl rfl))
    have hwrites := (hmodes.trans (Reach.one (microStep_rDcoOld _ (f := s.hid.cmd.w1) rfl rfl))).trans
      (Reach.one (microStep_rDcoNew _ hrate))
    have hwalk := hwrites.trans (Reach.one (microStep_rRespond _ (mode := mode) (by simp [mappedMode, mode])))
    exact finish_of_enter hseq (by simp [enter, hd, hmax]) hwalk (by omega) rfl

end

/-! ### Every command, and the reserved packets -/

theorem finish_setClockSource {s : State} {c : Packet} (hcmd : s.hid.cmd = c) (hseq : s.hid.seq = .entry)
    (henter : enter s = s.goto .cWrite) : execSetClockSource c.code s = .next (finish s) := by
  subst hcmd
  let s1 := (regWrite .clockSource (zext8 s.hid.cmd.code) s).commitClockSource s.hid.cmd.code
  have h1 : Reach 1 (s.goto .cWrite) (s1.goto .cRespond) := Reach.one rfl
  have h2 : Reach 1 (s1.goto .cRespond) (respond .ok (zext8 s.hid.cmd.code) 0 0 s1) := Reach.one rfl
  rw [execSetClockSource, Host.Outcome.next.injEq, eq_comm]
  exact finish_of_enter hseq henter (h1.trans h2) (by omega) rfl

/-- The meaning of a command at once, and the walk from its packet's acceptance (R17, R70). -/
theorem exec_eq_finish {s : State} {i : Instr} (hseq : s.hid.seq = .entry) (hd : decode s.hid.cmd = .ok i) :
    exec i s = .next (finish s) := by
  have answered {t : State} (henter : enter s = t) (hidle : t.hid.seq = .idle) :
      Host.Outcome.next t = (.next (finish s) : Host.Outcome State Fault Refusal) :=
    congrArg Host.Outcome.next (finish_of_response hseq henter hidle).symm
  have operands := operandsOf_of_decode hd
  cases i with
  | transfer cs wbits wdata rbits =>
    obtain ⟨rfl, rfl, rfl, rfl⟩ := operands
    exact finish_transfer rfl (by simp [enter, hd]) hseq
  | measure sourceIndex =>
    obtain rfl := operands
    exact finish_measure rfl (by simp [enter, hd]) hseq
  | setDco f m =>
    obtain ⟨rfl, rfl⟩ := operands
    exact finish_setDco rfl hseq hd
  | setDetune d =>
    obtain rfl := operands
    exact finish_setDetune rfl hseq hd
  | setClockSource code =>
    obtain rfl := operands
    exact finish_setClockSource rfl hseq (by simp [enter, hd])
  | setSpeedMode code =>
    obtain rfl := operands
    exact finish_setSpeedMode rfl hseq hd
  | configureRate rate =>
    obtain rfl := operands
    exact finish_configureRate rfl hseq hd
  | getDco => exact answered (by simp [enter, hd]) rfl
  | getDetune => exact answered (by simp [enter, hd]) rfl
  | getClockSource => exact answered (by simp [enter, hd]) (answerClockSource_idle s)
  | getSpeedMode => exact answered (by simp [enter, hd]) rfl

theorem answerReserved_eq_finish {s : State} {e : DecodeError} (hseq : s.hid.seq = .entry)
    (hd : decode s.hid.cmd = .error e) : answerReserved s = finish s :=
  (finish_of_response hseq (by simp [enter, hd, answerReserved]) rfl).symm

theorem step_of_offer {s : State} {p : Packet} {ps : List Packet} (hreset : s.resetIn = none) (hbusy : s.busy = false)
    (hoffers : s.offers = p :: ps) :
    step s = .next (finish (accept p { s with offers := ps })) := by
  let s1 := accept p { s with offers := ps }
  cases hd : decode p with
  | ok i =>
    rw [← exec_eq_finish (s := s1) rfl hd]
    simp [step, stepWith, hreset, hbusy, hoffers, hd, s1]
  | error e =>
    rw [← answerReserved_eq_finish (s := s1) rfl hd]
    simp [step, stepWith, hreset, hbusy, hoffers, hd, s1]

/-- Settles O13: from an idle engine with a packet offered, the step's command is its walk from the acceptance. -/
theorem stepIsTheSequencersRun : Obligations.StepIsTheSequencersRun := fun _ _ _ => step_of_offer

end Sys2Proof.Proofs
end

section
/-! The invariant under a whole step (spec/60_exceptions.md R109: the engine never stops on an error): each of the four
things a step can be is a run of transitions, and each transition keeps the invariant. -/

namespace Sys2Proof.Proofs

open Sys2Proof Sys2Proof.Machine Sys2Proof.Laws

theorem step_of_busy {s : State} (hreset : s.resetIn = none) (hbusy : s.busy = true) (hcmd : inProgress s = true) :
    step s = .next (finish s) := by
  simp [step, stepWith, hreset, hbusy, hcmd]

theorem step_of_nothing_offered {s : State} (hreset : s.resetIn = none) (hbusy : s.busy = false)
    (hoffers : s.offers = []) : step s = .next s := by
  simp [step, stepWith, hreset, hbusy, hoffers]

theorem microRun_keeps_cfg (n : Nat) (s : State) : (microRun n s).cfg = s.cfg := by
  induction n generalizing s with
  | zero => rfl
  | succ n ih => exact (ih (microStep s)).trans (frame_microStep s).cfg

theorem coherent_finish {s : State} (h : Coherent s = true) : Coherent (finish s) = true := coherent_microRun _ h

theorem finish_keeps_cfg (s : State) : (finish s).cfg = s.cfg := microRun_keeps_cfg _ s

/-- Settles O48: a reset restores the reset values; else the step is a run from a coherent state, of the command in
progress or of the packet just accepted, or nothing. -/
theorem stepKeepsTheInvariant : Obligations.StepKeepsTheInvariant := by
  intro s h
  cases hreset : s.resetIn with
  | some k => exact ⟨_, step_of_reset hreset, coherent_applyReset _, advanceRun_keeps_cfg k s⟩
  | none =>
    cases hbusy : s.busy with
    | true =>
      obtain ⟨hhand, -, -, -⟩ := (coherent_iff s).mp h
      have hcmd := ((handshakeOk_iff s).mp hhand).1 hbusy
      exact ⟨_, step_of_busy hreset hbusy hcmd, coherent_finish h, finish_keeps_cfg s⟩
    | false =>
      cases hoffers : s.offers with
      | nil => exact ⟨s, step_of_nothing_offered hreset hbusy hoffers, h, rfl⟩
      | cons p ps =>
        exact ⟨_, step_of_offer hreset hbusy hoffers, coherent_finish (coherent_accept p ps h), finish_keeps_cfg _⟩

end Sys2Proof.Proofs
end

section
/-! What a whole command does to the outside (spec/10_state.md R20; 20_memory.md R31; 40_register_port.md R71): the
registers it drives, and the response it publishes. -/

namespace Sys2Proof.Proofs

open Sys2Proof Sys2Proof.Machine Sys2Proof.Laws

/-! ### The response -/

theorem published_respond (e : Status) (r1 r2 : Word) (n : Nat) (s : State) : Published (respond e r1 r2 n s) :=
  ⟨rfl, rfl, rfl⟩

theorem published_transferRead (rbits : Half) (s : State) : Published (transferRead rbits s) := by
  unfold transferRead
  repeat' split
  all_goals exact published_respond ..

theorem published_answerClockSource (s : State) : Published (answerClockSource s) := by
  unfold answerClockSource
  split <;> exact published_respond ..

/-! ### The registers a command drives (R20) -/

/-- The registers of R20's table that a command reads. -/
def readRegs : Instr → List DevReg
  | .transfer _ _ _ _ => [.busStatus, .busData]
  | .measure _ => [.meas]
  | .setDco _ _ => []
  | .setDetune _ => []
  | .setClockSource _ => []
  | .setSpeedMode _ => []
  | .configureRate _ => []
  | .getDco => []
  | .getDetune => []
  | .getClockSource => []
  | .getSpeedMode => []

/-- The registers of R20's table that a command writes. -/
def writeRegs : Instr → List DevReg
  | .transfer _ _ _ _ => [.busStatus, .busCs, .busWbits, .busRbits, .busData]
  | .measure _ => [.measSelect]
  | .setDco _ _ => [.dco]
  | .setDetune _ => [.dco]
  | .setClockSource _ => [.clockSource]
  | .setSpeedMode _ => [.speedClksel, .speedMode, .dco]
  | .configureRate _ => [.speedClksel, .speedMode, .dco]
  | .getDco => []
  | .getDetune => []
  | .getClockSource => []
  | .getSpeedMode => []

/-- An event reads only the registers `rs` and writes only the registers `ws`. -/
def Drives (p : Params) (rs ws : List DevReg) : Event → Prop
  | .read off _ => ∃ r ∈ rs, off = p.offset r
  | .write off _ => ∃ r ∈ ws, off = p.offset r
  | .delay => True
  | .log _ => True

/-- From `s` to `t` a command has driven only the registers `rs` and `ws`, and touched nothing of the environment's. -/
structure Drove (rs ws : List DevReg) (s t : State) : Prop where
  untouched : Untouched s t
  events    : ∃ es, t.trace = s.trace ++ es ∧ ∀ e ∈ es, Drives s.cfg.params rs ws e

namespace Drove

variable {rs ws : List DevReg} {s t : State}

theorem refl (s : State) : Drove rs ws s s := ⟨⟨rfl, rfl, rfl, rfl⟩, [], by simp, by simp⟩

theorem trans {u : State} (h1 : Drove rs ws s t) (h2 : Drove rs ws t u) : Drove rs ws s u := by
  obtain ⟨⟨cfg1, off1, res1, cmd1⟩, es1, tr1, d1⟩ := h1
  obtain ⟨⟨cfg2, off2, res2, cmd2⟩, es2, tr2, d2⟩ := h2
  refine ⟨⟨cfg2.trans cfg1, off2.trans off1, res2.trans res1, cmd2.trans cmd1⟩, es1 ++ es2, by simp [tr2, tr1], ?_⟩
  intro e he
  rcases List.mem_append.mp he with he | he
  · exact d1 e he
  · exact cfg1 ▸ d2 e he

/-- A part that records nothing. -/
theorem silent (cfg : t.cfg = s.cfg) (offers : t.offers = s.offers) (resetIn : t.resetIn = s.resetIn)
    (cmd : t.hid.cmd = s.hid.cmd) (trace : t.trace = s.trace) : Drove rs ws s t :=
  ⟨⟨cfg, offers, resetIn, cmd⟩, [], by simpa using trace, by simp⟩

theorem regWrite {r : DevReg} (hr : r ∈ ws) (v : Word) (s : State) : Drove rs ws s (regWrite r v s) :=
  ⟨⟨rfl, rfl, rfl, rfl⟩, _, rfl, by simpa [Drives] using ⟨r, hr, rfl⟩⟩

theorem regRead {r : DevReg} (hr : r ∈ rs) (s : State) : Drove rs ws s (regRead r s).2 :=
  ⟨⟨rfl, rfl, rfl, rfl⟩, _, rfl, by simpa [Drives] using ⟨r, hr, rfl⟩⟩

theorem respond (e : Status) (r1 r2 : Word) (n : Nat) (s : State) : Drove rs ws s (respond e r1 r2 n s) :=
  silent rfl rfl rfl rfl rfl

theorem diag (g : DiagTag) (s : State) : Drove rs ws s (diag g s) := ⟨⟨rfl, rfl, rfl, rfl⟩, _, rfl, by simp [Drives]⟩

theorem programDco (hr : .dco ∈ ws) (f m : Word) (s : State) : Drove rs ws s (programDco f m s) :=
  ⟨⟨rfl, rfl, rfl, by simp⟩, _, programDco_trace f m s, by simpa [Drives] using ⟨.dco, hr, rfl⟩⟩

theorem commitDetune (d : Half) (s : State) : Drove rs ws s (s.commitDetune d) := silent rfl rfl rfl rfl rfl

theorem commitClockSource (code : Byte) (s : State) : Drove rs ws s (s.commitClockSource code) :=
  silent rfl rfl rfl rfl rfl

theorem commitSpeedMode (m : SpeedMode) (s : State) : Drove rs ws s (s.commitSpeedMode m) := silent rfl rfl rfl rfl rfl

/-- A poll reads its own register only (R67). -/
theorem pollReady {r : DevReg} (hr : r ∈ rs) {test : Word → Bool} {T : Nat} {res : PollResult}
    (h : pollReady r test T s = (res, t)) : Drove rs ws s t := by
  obtain ⟨es, ⟨fails, -, hres⟩, htrace, -, -, -, -, -⟩ := pollLoop_spec r test T (s.setTries 0)
  obtain ⟨hpolled, -⟩ := pollReady_keeps h
  rw [show pollLoop r test T (s.setTries 0) = (res, t) from h] at hres htrace
  have hfails : ∀ e ∈ fails.flatMap (failedTry (s.cfg.params.offset r)), Drives s.cfg.params rs ws e := by
    simp only [List.mem_flatMap, failedTry]
    rintro e ⟨v, -, he⟩
    rcases List.mem_pair.mp he with rfl | rfl
    · exact ⟨r, hr, rfl⟩
    · trivial
  refine ⟨⟨hpolled.cfg, hpolled.offers, hpolled.resetIn, hpolled.cmd⟩, es, htrace, ?_⟩
  cases res with
  | timeout =>
    obtain ⟨-, rfl⟩ := hres
    exact hfails
  | ready v =>
    obtain ⟨-, -, rfl⟩ := hres
    intro e he
    rcases List.mem_append.mp he with he | he
    · exact hfails e he
    · rw [List.mem_singleton.mp he]
      exact ⟨r, hr, rfl⟩

theorem transferPrepoll (hr : .busStatus ∈ rs) (hw : .busStatus ∈ ws) (s : State) :
    Drove rs ws s (transferPrepoll s) := by
  unfold Machine.transferPrepoll
  split
  · next hp => exact pollReady hr hp
  · next hp =>
    have hreset := (pollReady hr hp).trans (regWrite hw s.cfg.params.busResetValue _)
    have hlog := hreset.trans (diag .prepollTimeout _)
    exact hlog.trans (silent rfl rfl rfl rfl rfl)

theorem transferSetup (hc : .busCs ∈ ws) (hw : .busWbits ∈ ws) (hr : .busRbits ∈ ws) (cs wbits rbits : Half)
    (s : State) : Drove rs ws s (transferSetup cs wbits rbits s) :=
  ((regWrite hc _ s).trans (regWrite hw _ _)).trans (regWrite hr _ _)

theorem transferWriteData (hd : .busData ∈ ws) (wbits : Half) (wdata : Word) (s : State) :
    Drove rs ws s (transferWriteData wbits wdata s) := by
  unfold Machine.transferWriteData
  split
  · exact regWrite hd _ s
  · exact refl s

theorem transferRead (hr : .busStatus ∈ rs) (hd : .busData ∈ rs) (rbits : Half) (s : State) :
    Drove rs ws s (transferRead rbits s) := by
  unfold Machine.transferRead
  split
  · split
    · next hp => exact (pollReady hr hp).trans (respond ..)
    · next hp => exact ((pollReady hr hp).trans (regRead hd _)).trans (respond ..)
  · exact respond ..

theorem speedTransition (hc : .speedClksel ∈ ws) (hm : .speedMode ∈ ws) (hr : .dco ∈ ws) (m : SpeedMode) (s : State) :
    Drove rs ws s (speedTransition m s) := by
  have hclksel := regWrite (rs := rs) hc s.cfg.params.clkselValue s
  have hmode := hclksel.trans (regWrite hm (modeReg m) _)
  exact (hmode.trans (commitSpeedMode m _)).trans (programDco hr _ _ _)

theorem answerClockSource (s : State) : Drove rs ws s (answerClockSource s) := by
  unfold Machine.answerClockSource
  split <;> exact respond ..

end Drove

/-! ### Command by command -/

/-- A command's meaning at `s` is a state that has driven the registers `rs` and `ws` and published a response. -/
def Completes (rs ws : List DevReg) (s : State) (x : Host.Outcome State Fault Refusal) : Prop :=
  ∃ t, x = .next t ∧ Drove rs ws s t ∧ Published t

section
variable {rs ws : List DevReg} {s t : State}

/-- What has driven its registers so far may answer. -/
theorem Drove.answers (h : Drove rs ws s t) (e : Status) (r1 r2 : Word) (n : Nat) :
    Completes rs ws s (.next (Machine.respond e r1 r2 n t)) :=
  ⟨_, rfl, h.trans (Drove.respond ..), published_respond ..⟩

/-- A refusal drives nothing (R110). -/
theorem completes_raise (e : Status) (s : State) : Completes rs ws s (.next (raise e s)) :=
  (Drove.refl s).answers e 0 0 0

end

theorem completes_transfer (cs wbits : Half) (wdata : Word) (rbits : Half) (s : State) :
    Completes [.busStatus, .busData] [.busStatus, .busCs, .busWbits, .busRbits, .busData] s
      (execTransfer cs wbits wdata rbits s) := by
  have hpre := Drove.transferPrepoll (rs := [.busStatus, .busData])
    (ws := [.busStatus, .busCs, .busWbits, .busRbits, .busData]) (by simp) (by simp) s
  have hset := hpre.trans (Drove.transferSetup (by simp) (by simp) (by simp) cs wbits rbits _)
  have hdata := hset.trans (Drove.transferWriteData (by simp) wbits wdata _)
  exact ⟨_, rfl, hdata.trans (Drove.transferRead (by simp) (by simp) rbits _), published_transferRead ..⟩

theorem completes_measure (sourceIndex : Word) (s : State) :
    Completes [.meas] [.measSelect] s (execMeasure sourceIndex s) := by
  have hselect := Drove.regWrite (rs := [.meas]) (ws := [.measSelect]) (r := .measSelect) (by simp)
    (selectWord sourceIndex) s
  unfold execMeasure
  split
  · next hp => exact (hselect.trans (Drove.pollReady (by simp) hp)).answers ..
  · next hp => exact (hselect.trans (Drove.pollReady (by simp) hp)).answers ..

theorem completes_setDco (f m : Word) (s : State) : Completes [] [.dco] s (execSetDco f m s) := by
  unfold execSetDco
  split
  · exact (Drove.programDco (by simp) f m s).answers ..
  · exact completes_raise ..

theorem completes_setDetune (d : Int) (s : State) : Completes [] [.dco] s (execSetDetune d s) := by
  unfold execSetDetune
  split
  · exact ((Drove.commitDetune _ s).trans (Drove.programDco (by simp) _ _ _)).answers ..
  · exact completes_raise ..

theorem completes_setClockSource (code : Byte) (s : State) :
    Completes [] [.clockSource] s (execSetClockSource code s) := by
  have hwrite := Drove.regWrite (rs := []) (ws := [.clockSource]) (r := .clockSource) (by simp) (zext8 code) s
  exact (hwrite.trans (Drove.commitClockSource code _)).answers ..

theorem completes_setSpeedMode (code : Byte) (s : State) :
    Completes [] [.speedClksel, .speedMode, .dco] s (execSetSpeedMode code s) := by
  unfold execSetSpeedMode
  split
  · exact completes_raise ..
  · next m _ =>
    split
    · exact completes_raise ..
    · exact (Drove.speedTransition (by simp) (by simp) (by simp) m s).answers ..

theorem completes_configureRate (rate : Word) (s : State) :
    Completes [] [.speedClksel, .speedMode, .dco] s (execConfigureRate rate s) := by
  unfold execConfigureRate
  dsimp only
  split
  · exact completes_raise ..
  · have hspeed := Drove.speedTransition (rs := []) (ws := [.speedClksel, .speedMode, .dco]) (by simp) (by simp)
      (by simp) (rateMode s.cfg.params rate) s
    exact ((hspeed.trans (Drove.commitDetune 0 _)).trans (Drove.programDco (by simp) rate 0 _)).answers ..

/-- Every command drives only its own registers, and ends with a response (R61, R71). -/
theorem exec_completes (i : Instr) (s : State) : Completes (readRegs i) (writeRegs i) s (exec i s) := by
  cases i with
  | transfer cs wbits wdata rbits => exact completes_transfer cs wbits wdata rbits s
  | measure sourceIndex => exact completes_measure sourceIndex s
  | setDco f m => exact completes_setDco f m s
  | setDetune d => exact completes_setDetune d s
  | setClockSource code => exact completes_setClockSource code s
  | setSpeedMode code => exact completes_setSpeedMode code s
  | configureRate rate => exact completes_configureRate rate s
  | getDco | getDetune | getSpeedMode => exact (Drove.refl s).answers ..
  | getClockSource => exact ⟨_, rfl, Drove.answerClockSource s, published_answerClockSource s⟩

/-! ### Where these registers lie -/

theorem readRegs_subset (i : Instr) : ∀ r ∈ readRegs i, r = .busStatus ∨ r = .busData ∨ r = .meas := by
  cases i <;> simp [readRegs]

theorem meas_not_mem_writeRegs (i : Instr) : .meas ∉ writeRegs i := by
  cases i <;> simp [writeRegs]

theorem offset_mem_offsets (p : Params) (r : DevReg) : p.offset r ∈ p.offsets := by
  cases r <;> simp [Params.offsets]

/-- Every register lies on a word of the window (R31, R34). -/
theorem offset_in_window (c : Configuration) (r : DevReg) :
    c.params.offset r % 4 = 0 ∧ c.params.offset r < c.params.windowSize := by
  obtain ⟨-, hoffsets, -⟩ := (wf_iff c.params).mp c.ok
  exact hoffsets _ (offset_mem_offsets c.params r)

/-- Settles O18: every event of a command is at one of its own registers, of which none is written that R20's table
makes read-only. -/
theorem accessesStayInTheWindow : Obligations.AccessesStayInTheWindow := by
  intro i s
  obtain ⟨t, hexec, hdrove, -⟩ := exec_completes i s
  obtain ⟨es, htrace, hes⟩ := hdrove.events
  refine ⟨t, es, hexec, htrace, fun e he => ?_⟩
  have hdrives := hes e he
  refine ⟨?_, ?_, ?_⟩
  · rintro off v rfl
    obtain ⟨r, hr, rfl⟩ := hdrives
    rcases readRegs_subset i r hr with rfl | rfl | rfl <;> simp
  · rintro off v rfl
    obtain ⟨r, hr, rfl⟩ := hdrives
    have hne : r ≠ .meas := fun h => meas_not_mem_writeRegs i (h ▸ hr)
    cases r <;> simp at hne ⊢
  · intro off hoff
    cases e with
    | read o v | write o v =>
      obtain ⟨r, -, rfl⟩ := hdrives
      obtain rfl := Option.some.inj hoff
      exact offset_in_window s.cfg r
    | delay | log g => contradiction

end Sys2Proof.Proofs
end

section
/-! The stored fields and REG_DCO after a command (spec/10_state.md R11 to R15; 60_exceptions.md R110): a command that
programs the DCO is refused, or ends with ProgramDCO (R92) and its response. -/

namespace Sys2Proof.Proofs

open Sys2Proof Sys2Proof.Machine Sys2Proof.Laws

/-! ### The status of a response without data bytes -/

theorem status_eq_zero_iff (e : Status) (b : Bool) (r1 r2 : Word) :
    Response.status ⟨rsp0Word e b 0, r1, r2⟩ = 0 ↔ e = .ok := by
  cases e <;> cases b <;> simp [Response.status, rsp0Word, Status.code]

/-! ### The commands that write REG_DCO (R15) -/

/-- What such a command can do: a refusal, or ProgramDCO last and the response after it. -/
theorem exec_dcoWriter {i : Instr} (h : writesDco i = true) (s : State) :
    (∃ e, e ≠ .ok ∧ exec i s = .next (raise e s)) ∨
      ∃ f m w r2 u, exec i s = .next (respond .ok w r2 0 (programDco f m u)) := by
  cases i with
  | transfer | measure | setClockSource | getDco | getDetune | getClockSource | getSpeedMode => contradiction
  | setDco f m =>
    rw [exec, execSetDco]
    split
    · exact .inr ⟨_, _, _, _, _, rfl⟩
    · exact .inl ⟨.invalidArgument, by decide, rfl⟩
  | setDetune d =>
    rw [exec, execSetDetune]
    split
    · exact .inr ⟨_, _, _, _, _, rfl⟩
    · exact .inl ⟨.invalidArgument, by decide, rfl⟩
  | setSpeedMode code =>
    rw [exec, execSetSpeedMode]
    split
    · exact .inl ⟨.invalidArgument, by decide, rfl⟩
    · split
      · exact .inl ⟨.noop, by decide, rfl⟩
      · exact .inr ⟨_, _, _, _, _, rfl⟩
  | configureRate rate =>
    rw [exec, execConfigureRate]
    dsimp only
    split
    · exact .inl ⟨.rateTooHigh, by decide, rfl⟩
    · exact .inr ⟨_, _, _, _, _, rfl⟩

/-- ProgramDCO writes the divider word of what it stores, so a response after it leaves the agreement (R15, R92). -/
theorem dcoAgrees_respond_programDco (e : Status) (r1 r2 : Word) (n : Nat) (f m : Word) (u : State) :
    DcoAgrees (respond e r1 r2 n (programDco f m u)) := by
  simp only [DcoAgrees, respond_cfg, respond_trace, respond_S, programDco_cfg, programDco_trace, programDco_S]
  exact lastWrite_concat_write ..

/-! ### The other commands -/

/-- A trace that writes only other registers does not write REG_DCO. -/
theorem lastWrite_eq_none {p : Params} {rs ws : List DevReg} {es : List Event} (hes : ∀ e ∈ es, Drives p rs ws e)
    (hws : ∀ r ∈ ws, p.offset r ≠ p.regDco) : lastWrite p.regDco es = none := by
  induction es with
  | nil => rfl
  | cons e es ih =>
    have htail := ih fun e' he' => hes e' (List.mem_cons_of_mem _ he')
    cases e with
    | write o v =>
      obtain ⟨r, hr, rfl⟩ := hes _ List.mem_cons_self
      simp [lastWrite, htail, hws r hr]
    | read | delay | log => simp [lastWrite, htail]

theorem writeRegs_offset_ne_dco {i : Instr} {p : Params} (hw : writesDco i = false) (halone : dcoOffsetAlone p = true) :
    ∀ r ∈ writeRegs i, p.offset r ≠ p.regDco := by
  simp only [dcoOffsetAlone, List.all_cons, List.all_nil, Bool.and_eq_true, bne_iff_ne, Bool.and_true] at halone
  cases i <;> simp_all [writeRegs, writesDco]

/-- Settles O45: a command that writes REG_DCO is refused or ends with ProgramDCO; any other drives other registers. -/
theorem dcoWritersLeaveAgreement : Obligations.DcoWritersLeaveAgreement := by
  intro i s
  obtain ⟨t, hexec, hdrove, -⟩ := exec_completes i s
  obtain ⟨es, htrace, hes⟩ := hdrove.events
  refine ⟨t, es, hexec, htrace, fun hw => ?_, fun hw halone => ?_⟩
  · rcases exec_dcoWriter hw s with ⟨e, he, hraise⟩ | ⟨f, m, w, r2, u, hok⟩
    · obtain rfl := Host.Outcome.next.inj (hexec.symm.trans hraise)
      exact ⟨fun hstatus => absurd ((status_eq_zero_iff ..).mp hstatus) he, fun _ => by simpa using htrace⟩
    · obtain rfl := Host.Outcome.next.inj (hexec.symm.trans hok)
      exact ⟨fun _ => dcoAgrees_respond_programDco .., fun hstatus => absurd ((status_eq_zero_iff ..).mpr rfl) hstatus⟩
  · exact lastWrite_eq_none hes (writeRegs_offset_ne_dco hw halone)

/-! ### The stored fields (R14) -/

theorem pollReady_keeps_S {r : DevReg} {test : Word → Bool} {T : Nat} {s t : State} {res : PollResult}
    (h : pollReady r test T s = (res, t)) : t.S = s.S := by
  obtain ⟨hpolled, -⟩ := pollReady_keeps h
  exact hpolled.S

theorem transferPrepoll_keeps_S (s : State) : (transferPrepoll s).S = s.S := by
  unfold transferPrepoll
  split
  · next hp => exact (pollReady_keeps_S hp :)
  · next hp => exact (pollReady_keeps_S hp :)

theorem transferSetup_keeps_S (cs wbits rbits : Half) (s : State) : (transferSetup cs wbits rbits s).S = s.S := rfl

theorem transferWriteData_keeps_S (wbits : Half) (wdata : Word) (s : State) :
    (transferWriteData wbits wdata s).S = s.S := by
  unfold transferWriteData
  split <;> rfl

theorem transferRead_keeps_S (rbits : Half) (s : State) : (transferRead rbits s).S = s.S := by
  unfold transferRead
  split
  · split
    · next hp => exact (pollReady_keeps_S hp :)
    · next hp => exact (pollReady_keeps_S hp :)
  · rfl

theorem execTransfer_keeps_S {cs wbits : Half} {wdata : Word} {rbits : Half} {s t : State}
    (h : exec (.transfer cs wbits wdata rbits) s = .next t) : t.S = s.S := by
  obtain rfl := Host.Outcome.next.inj h
  rw [transferRead_keeps_S, transferWriteData_keeps_S, transferSetup_keeps_S, transferPrepoll_keeps_S]

theorem execMeasure_keeps_S {sourceIndex : Word} {s t : State} (h : exec (.measure sourceIndex) s = .next t) :
    t.S = s.S := by
  obtain rfl := Host.Outcome.next.inj h
  split
  · next hp => exact (pollReady_keeps_S hp :)
  · next hp => exact (pollReady_keeps_S hp :)

theorem answerClockSource_keeps_S (s : State) : (answerClockSource s).S = s.S := by
  unfold answerClockSource
  split <;> rfl

/-- "A non-OK response always leaves all five stored fields as they were" (R110): only a refusal and the commands that
write none of them can end so. -/
theorem nonOk_keeps_S {i : Instr} {s t : State} (h : exec i s = .next t) (hstatus : t.rsp.status ≠ 0) : t.S = s.S := by
  cases hw : writesDco i with
  | true =>
    rcases exec_dcoWriter hw s with ⟨e, -, hraise⟩ | ⟨f, m, w, r2, u, hok⟩
    · obtain rfl := Host.Outcome.next.inj (h.symm.trans hraise)
      rfl
    · obtain rfl := Host.Outcome.next.inj (h.symm.trans hok)
      exact absurd ((status_eq_zero_iff ..).mpr rfl) hstatus
  | false =>
    cases i with
    | setDco | setDetune | setSpeedMode | configureRate => contradiction
    | transfer => exact execTransfer_keeps_S h
    | measure => exact execMeasure_keeps_S h
    | setClockSource code =>
      obtain rfl := Host.Outcome.next.inj h
      exact absurd ((status_eq_zero_iff ..).mpr rfl) hstatus
    | getDco | getDetune | getSpeedMode =>
      obtain rfl := Host.Outcome.next.inj h
      rfl
    | getClockSource =>
      obtain rfl := Host.Outcome.next.inj h
      exact answerClockSource_keeps_S s

/-- Settles O41: each command's meaning commits the fields of its own row of R14's table, or is refused. -/
theorem storedFieldsHaveTheirWriters : Obligations.StoredFieldsHaveTheirWriters := by
  intro i s
  obtain ⟨t, hexec, -⟩ := exec_completes i s
  refine ⟨t, hexec, nonOk_keeps_S hexec, ?_⟩
  cases i with
  | transfer => exact execTransfer_keeps_S hexec
  | measure => exact execMeasure_keeps_S hexec
  | setDco | setDetune =>
    obtain rfl := Host.Outcome.next.inj hexec
    dsimp only
    split <;> rfl
  | setSpeedMode =>
    obtain rfl := Host.Outcome.next.inj hexec
    dsimp only
    split
    · rfl
    · split <;> rfl
  | configureRate =>
    obtain rfl := Host.Outcome.next.inj hexec
    dsimp only
    split <;> rfl
  | setClockSource | getDco | getDetune | getSpeedMode =>
    obtain rfl := Host.Outcome.next.inj hexec
    rfl
  | getClockSource =>
    obtain rfl := Host.Outcome.next.inj hexec
    exact answerClockSource_keeps_S s

/-! ### The agreement from step to step (R15) -/

/-- The agreement speaks of the configuration, the stored fields and the trace only. -/
theorem dcoAgrees_congr {s t : State} (hcfg : t.cfg = s.cfg) (hS : t.S = s.S) (htrace : t.trace = s.trace) :
    DcoAgrees t ↔ DcoAgrees s := by
  rw [DcoAgrees, DcoAgrees, hcfg, hS, htrace]

/-- The divider word does not depend on the clock source (R87, R92). -/
theorem dcoAgrees_of_no_write {s t : State} {es : List Event} (hcfg : t.cfg = s.cfg) (htrace : t.trace = s.trace ++ es)
    (hwrite : lastWrite s.cfg.params.regDco es = none) (hS : t.S = { s.S with clockSource := t.S.clockSource })
    (h : DcoAgrees s) : DcoAgrees t := by
  unfold DcoAgrees at h ⊢
  rw [hcfg, htrace, lastWrite_append, hwrite, Option.none_or, h, hS]
  rfl

theorem exec_keeps_clockSourceOnly {i : Instr} {s t : State} (hw : writesDco i = false) (h : exec i s = .next t) :
    t.S = { s.S with clockSource := t.S.clockSource } := by
  obtain ⟨t', ht', -, hS⟩ := storedFieldsHaveTheirWriters i s
  obtain rfl := Host.Outcome.next.inj (h.symm.trans ht')
  cases i with
  | setDco | setDetune | setSpeedMode | configureRate => contradiction
  | setClockSource => exact hS
  | transfer | measure | getDco | getDetune | getClockSource | getSpeedMode => rw [show t.S = s.S from hS]

/-- Every command keeps the agreement: a writer leaves it or is refused, another command changes neither side of it. -/
theorem exec_keeps_dcoAgreement {i : Instr} {s t : State} (halone : dcoOffsetAlone s.cfg.params = true)
    (hcfg : t.cfg = s.cfg) (h : exec i s = .next t) (hagrees : DcoAgrees s) : DcoAgrees t := by
  obtain ⟨t', es, ht', htrace, hwriter, hother⟩ := dcoWritersLeaveAgreement i s
  obtain rfl := Host.Outcome.next.inj (h.symm.trans ht')
  cases hw : writesDco i with
  | false => exact dcoAgrees_of_no_write hcfg htrace (hother hw halone) (exec_keeps_clockSourceOnly hw h) hagrees
  | true =>
    obtain ⟨hok, hrefused⟩ := hwriter hw
    by_cases hstatus : t.rsp.status = 0
    · exact hok hstatus
    · obtain rfl := hrefused hstatus
      exact dcoAgrees_of_no_write hcfg htrace rfl (by rw [nonOk_keeps_S h hstatus]) hagrees

/-- Settles O46: the step is nothing, a reserved packet's answer, or a command, each of which keeps the agreement. -/
theorem stepKeepsDcoAgreement : Obligations.StepKeepsDcoAgreement := by
  intro s halone hreset hbusy hagrees
  cases hoffers : s.offers with
  | nil => exact ⟨s, step_of_nothing_offered hreset hbusy hoffers, hagrees, hbusy, hreset, rfl⟩
  | cons p ps =>
    have hstep := step_of_offer hreset hbusy hoffers
    let s1 := accept p { s with offers := ps }
    have haccepted : DcoAgrees s1 := (dcoAgrees_congr (s := s) rfl rfl rfl).mpr hagrees
    cases hd : decode p with
    | ok i =>
      obtain ⟨t, hexec, hdrove, hpublished⟩ := exec_completes i s1
      rw [← exec_eq_finish (s := s1) rfl hd, hexec] at hstep
      exact ⟨t, hstep, exec_keeps_dcoAgreement (s := s1) halone hdrove.untouched.cfg hexec haccepted, hpublished.busy,
        hdrove.untouched.resetIn.trans hreset, hdrove.untouched.cfg⟩
    | error e =>
      rw [← answerReserved_eq_finish (s := s1) rfl hd] at hstep
      exact ⟨_, hstep, (dcoAgrees_congr (s := s1) rfl rfl rfl).mpr haccepted, rfl, hreset, rfl⟩

end Sys2Proof.Proofs
end

section
/-! The command port while a command is in progress, and how long one can be (spec/20_memory.md R32, R43, R45, R46;
70_reset_and_hazards.md R139): the packets and the latched one stand through every transition, and each transition of a
command brings its response nearer. -/

namespace Sys2Proof.Proofs

open Sys2Proof Sys2Proof.Machine Sys2Proof.Laws

/-! ### The busy port (R43, R45) -/

theorem issue_of_busy (p : Packet) {s : State} (h : s.busy = true) : issue p s = none := by
  simp [issue, h]

theorem microRun_keeps_offers (n : Nat) (s : State) : (microRun n s).offers = s.offers := by
  induction n generalizing s with
  | zero => rfl
  | succ n ih => exact (ih (microStep s)).trans (frame_microStep s).offers

theorem microRun_keeps_cmd (n : Nat) (s : State) : (microRun n s).hid.cmd = s.hid.cmd := by
  induction n generalizing s with
  | zero => rfl
  | succ n ih => exact (ih (microStep s)).trans (frame_microStep s).cmd

/-- Settles O9: while busy the engine's transitions are the sequencer's, and none of them touches the host's packets
or the latched one. -/
theorem busyPortHoldsTheOffer : Obligations.BusyPortHoldsTheOffer := by
  intro s p hbusy
  rw [advance_of_busy hbusy]
  exact ⟨issue_of_busy p hbusy, (frame_microStep s).offers, (frame_microStep s).cmd, microRun_keeps_offers _ s,
    microRun_keeps_cmd _ s⟩

/-! ### How far the response is (R46, R139) -/

/-- The most transitions from a position to the response, where the current poll has made `n` reads: two for each try
left of a poll, and one for each micro-operation after it. -/
def transitionsLeft : Pos → Nat → Nat
  | .idle, _ => 0
  | .entry, _ => commandBound
  | .tPrepollRead, n => 27 + 2 * (busPollTries - n)
  | .tPrepollDelay, n => 28 + 2 * (busPollTries - n)
  | .tReset, _ => 27
  | .tLog, _ => 26
  | .tCs, _ => 25
  | .tWbits, _ => 24
  | .tRbits, _ => 23
  | .tData, _ => 22
  | .tPollRead, n => 1 + 2 * (busPollTries - n)
  | .tPollDelay, n => 2 + 2 * (busPollTries - n)
  | .tReadData, _ => 2
  | .mSelect, _ => 12
  | .mRead, n => 1 + 2 * (measPollTries - n)
  | .mDelay, n => 2 + 2 * (measPollTries - n)
  | .dWrite, _ | .eWrite, _ | .cWrite, _ => 2
  | .sClksel, _ => 4
  | .sMode, _ => 3
  | .sDco, _ => 2
  | .rClksel, _ => 5
  | .rMode, _ => 4
  | .rDcoOld, _ => 3
  | .rDcoNew, _ => 2
  | .tRespondData, _ | .tRespondNoRead, _ | .tRaiseTimeout, _ | .mRespondHz, _ | .mRespondNoLock, _ | .dRespond, _
  | .eRespond, _ | .cRespond, _ | .sRespond, _ | .rRespond, _ => 1

/-- Where a state stands on its way to the response. -/
def remaining (s : State) : Nat := transitionsLeft s.hid.seq s.hid.tries

/-- No position is further from the response than `entry` is. -/
theorem transitionsLeft_le (q : Pos) (n : Nat) : transitionsLeft q n ≤ commandBound := by
  cases q <;> simp only [transitionsLeft, commandBound, busPollTries, measPollTries] <;> omega

/-- A read of a poll counts a try, whichever way it leads. -/
theorem remaining_pollStep_lt {r : DevReg} {test : Word → Bool} {onReady onFail : Pos} {s : State} {m : Nat}
    (hready : transitionsLeft onReady (s.hid.tries + 1) < m) (hfail : transitionsLeft onFail (s.hid.tries + 1) < m) :
    remaining (pollStep r test onReady onFail s) < m := by
  simp only [pollStep]
  split
  · exact hready
  · exact hfail

theorem remaining_delayStep_lt {T : Nat} {again onTimeout : Pos} {s : State} {m : Nat}
    (hagain : transitionsLeft again s.hid.tries < m) (htimeout : transitionsLeft onTimeout s.hid.tries < m) :
    remaining (delayStep T again onTimeout s) < m := by
  simp only [delayStep]
  split
  · exact hagain
  · exact htimeout

theorem remaining_afterData_le (s : State) : remaining (afterData s) ≤ 21 := by
  unfold afterData
  split
  · exact le_refl 21
  · show 1 ≤ 21
    decide

theorem remaining_afterCounts_le (s : State) : remaining (afterCounts s) ≤ 22 := by
  by_cases hw : writesData s.hid.cmd.wbits = true
  · rw [afterCounts, if_pos hw]
    exact le_refl 22
  · rw [afterCounts, if_neg hw]
    exact (remaining_afterData_le s).trans (by decide)

/-- TRANSFER has the longest way from its first micro-operation; a command that answers at once has none. -/
theorem remaining_enter_le (s : State) : remaining (enter s) ≤ 47 := by
  unfold enter answerClockSource
  repeat' split
  all_goals simp [remaining, transitionsLeft, busPollTries]

/-- Inside a command every transition brings the response nearer: a poll's read uses up a try that was left. -/
theorem remaining_microStep_lt {s : State} (h : Coherent s = true) (hb : s.busy = true) :
    remaining (microStep s) < remaining s := by
  obtain ⟨hhand, -, -, htries⟩ := (coherent_iff s).mp h
  have hpos := ((handshakeOk_iff s).mp hhand).1 hb
  show remaining (microStep s) < transitionsLeft s.hid.seq s.hid.tries
  unfold microStep
  cases hseq : s.hid.seq <;> simp only [hseq, triesOk, decide_eq_true_eq] at hpos htries <;> dsimp only
  case idle => contradiction
  case entry => exact Nat.lt_succ_of_le (remaining_enter_le s)
  case tPrepollRead | tPollRead | mRead =>
    apply remaining_pollStep_lt <;> simp only [transitionsLeft] <;> omega
  case tPrepollDelay | tPollDelay | mDelay =>
    apply remaining_delayStep_lt <;> simp only [transitionsLeft] <;> omega
  case tRbits => exact Nat.lt_succ_of_le (remaining_afterCounts_le _)
  case tData => exact Nat.lt_succ_of_le (remaining_afterData_le _)
  all_goals simp [remaining, transitionsLeft, measPollTries]

/-- A transition of a busy engine leaves it busy, or is the response. -/
theorem busy_or_published_microStep {s : State} (hb : s.busy = true) :
    (microStep s).busy = true ∨ Published (microStep s) := by
  rcases (frame_microStep s).handshake with ⟨hbusy, -, -⟩ | ⟨hbusy, hdone, hseq, -⟩
  · exact .inl (hbusy.trans hb)
  · exact .inr ⟨hbusy, hdone, hseq⟩

/-- A coherent command in progress publishes its response, busy until then, within the transitions it has left. -/
theorem published_within (m : Nat) {s : State} (h : Coherent s = true) (hb : s.busy = true) (hm : remaining s ≤ m) :
    ∃ n ≤ m, Published (microRun n s) ∧ ∀ k < n, (microRun k s).busy = true := by
  induction m generalizing s with
  | zero => exact absurd (remaining_microStep_lt h hb) (by omega)
  | succ m ih =>
    rcases busy_or_published_microStep hb with hbusy | hpublished
    · have hnearer := remaining_microStep_lt h hb
      obtain ⟨n, hn, hpublished, hbefore⟩ := ih (coherent_microStep h) hbusy (by omega)
      refine ⟨n + 1, by omega, hpublished, fun k hk => ?_⟩
      cases k with
      | zero => exact hb
      | succ k => exact hbefore k (by omega)
    · refine ⟨1, by omega, hpublished, fun k hk => ?_⟩
      obtain rfl : k = 0 := by omega
      exact hb

/-- Settles O14: no position is more than 48 transitions from its response, and each transition brings it nearer. -/
theorem commandInProgressReachesItsResponse : Obligations.CommandInProgressReachesItsResponse := by
  intro s h hb
  obtain ⟨n, hn, hpublished, hbefore⟩ := published_within commandBound h hb (transitionsLeft_le _ _)
  have hfinish : finish s = microRun n s := (reach_run n s).finish hn hpublished.seq
  exact ⟨n, hn, hpublished.busy, hpublished.done, hfinish.symm, hbefore⟩

/-! ### The accepted packet (R45, R48) -/

theorem step_of_command {s : State} {p : Packet} {ps : List Packet} {i : Instr} (hreset : s.resetIn = none)
    (hbusy : s.busy = false) (hoffers : s.offers = p :: ps) (hd : decode p = .ok i) :
    step s = exec i (accept p { s with offers := ps }) := by
  simp [step, stepWith, hreset, hbusy, hoffers, hd]

/-- Settles O6: the accepted state is the one the statement writes out. -/
theorem stepRunsTheOfferedCommand : Obligations.StepRunsTheOfferedCommand :=
  fun _ _ _ _ hreset hbusy hoffers hd => ⟨_, step_of_command hreset hbusy hoffers hd, rfl⟩

/-! ### Memory accesses (R32) -/

theorem memRead_of_register (r : DevReg) (s : State) :
    memRead (Config.ioBase + s.cfg.params.offset r) 4 s = some (regRead r s) := by
  simp [memRead, regRead]

theorem memWrite_of_register (r : DevReg) (v : Word) (s : State) :
    memWrite (Config.ioBase + s.cfg.params.offset r) 4 v s = some (regWrite r v s) := by
  simp [memWrite, regWrite]

theorem memAccess_of_other_size {n : Nat} (h : n ≠ 4) (a : Nat) (v : Word) (s : State) :
    memRead a n s = none ∧ memWrite a n v s = none := by
  simp [memRead, memWrite, h]

/-- Settles O16: at size 4 the base cancels, and no other size passes the check. -/
theorem memAccessIsRegisterAccess : Obligations.MemAccessIsRegisterAccess := by
  intro r v n s
  exact ⟨memRead_of_register r s, memWrite_of_register r v s, fun hn a => memAccess_of_other_size hn a v s⟩

end Sys2Proof.Proofs
end

section
/-! Packets and the commands they stand for (spec/30_encoding.md R47 to R62): each field read back from the word it was
laid in, the decoder and the encoder as inverses of one another up to the ignored bits, the assembler's lines, and the
fields of RSP0. -/

namespace Sys2Proof.Proofs

open Sys2Proof Sys2Proof.Machine Sys2Proof.Laws

/-! ### Fields read back from the words of an encoding (R48 to R55) -/

section

variable (cs wbits rbits half : Half) (code : Byte) (opc : BitVec 4) (w0 w1 w2 : Word)

@[simp] theorem opc_of_header : Packet.opc ⟨header cs opc, w1, w2⟩ = opc := (header_fields cs opc).1

@[simp] theorem cs_of_header : Packet.cs ⟨header cs opc, w1, w2⟩ = cs := (header_fields cs opc).2.2

@[simp] theorem wbits_of_counts : Packet.wbits ⟨w0, rbits ++ wbits, w2⟩ = wbits := BitVec.extractLsb'_append_eq_right

@[simp] theorem rbits_of_counts : Packet.rbits ⟨w0, rbits ++ wbits, w2⟩ = rbits := BitVec.extractLsb'_append_eq_left

@[simp] theorem detune_of_half : Packet.detune ⟨w0, 0#16 ++ half, w2⟩ = half.toInt :=
  congrArg BitVec.toInt BitVec.extractLsb'_append_eq_right

@[simp] theorem code_of_byte : Packet.code ⟨w0, 0#24 ++ code, w2⟩ = code := BitVec.extractLsb'_append_eq_right

end

/-! ### Decoding an encoding (R50 to R57) -/

theorem wrapI16_of_fitsI16 {d : Int} (h : fitsI16 d = true) : wrapI16 d = d := by
  simp only [fitsI16, Bool.and_eq_true, decide_eq_true_eq] at h
  obtain ⟨low, high⟩ := h
  obtain ⟨-, -, -, hself⟩ := wrapI16_spec d
  exact hself low high

theorem fitsI16_wrapI16 (c : Int) : fitsI16 (wrapI16 c) = true := by
  obtain ⟨low, high, -, -⟩ := wrapI16_spec c
  simp [fitsI16, low, high]

/-- The header carries the opcode, and each field is read from where it was laid; the detune is the one operand wider
than its field. -/
theorem decode_encode {i : Instr} (hwf : i.WellFormed = true) : decode (encode i) = .ok i := by
  cases i with
  | transfer cs wbits wdata rbits => simp [encode, opcodeOf, decode_opc_1]
  | measure sourceIndex => simp [encode, opcodeOf, decode_opc_2]
  | setDco freqHz milliHz => simp [encode, opcodeOf, decode_opc_3]
  | setDetune detune =>
    have hdetune : (BitVec.ofInt 16 detune).toInt = detune := wrapI16_of_fitsI16 hwf
    simp [encode, opcodeOf, decode_opc_4, hdetune, -BitVec.toInt_ofInt]
  | setClockSource code => simp [encode, opcodeOf, decode_opc_5]
  | setSpeedMode requested => simp [encode, opcodeOf, decode_opc_6]
  | configureRate rate => simp [encode, opcodeOf, decode_opc_7]
  | getDco => simp [encode, opcodeOf, decode_opc_8]
  | getDetune => simp [encode, opcodeOf, decode_opc_9]
  | getClockSource => simp [encode, opcodeOf, decode_opc_A]
  | getSpeedMode => simp [encode, opcodeOf, decode_opc_B]

/-- Settles O1, constructor by constructor. -/
theorem decodeOfEncodeIsTheCommand : Obligations.DecodeOfEncodeIsTheCommand := fun _ => decode_encode

/-! ### Which packets decode (R49, R58) -/

theorem opc_toNat (p : Packet) : p.opc.toNat = p.w0.toNat % 16 := by
  simp [Packet.opc]

/-- A packet decodes to a command of its own opcode, or its opcode is reserved and it decodes to none. -/
theorem decode_ok_or_reserved (p : Packet) :
    (∃ i, decode p = .ok i ∧ opcodeOf i = p.opc) ∨
      ((p.opc.toNat = 0 ∨ 12 ≤ p.opc.toNat) ∧ ∃ e, decode p = .error e) := by
  rcases decode_cases p with ⟨h, hd⟩ | ⟨h, hd⟩ | ⟨h, hd⟩ | ⟨h, hd⟩ | ⟨h, hd⟩ | ⟨h, hd⟩ | ⟨h, hd⟩ | ⟨h, hd⟩ |
    ⟨h, hd⟩ | ⟨h, hd⟩ | ⟨h, hd⟩ | ⟨hreserved, hd⟩
  any_goals exact .inl ⟨_, hd, h.symm⟩
  refine .inr ⟨?_, _, hd⟩
  rcases hreserved with h | h | h | h | h <;> simp [h]

theorem opcodeOf_of_decode {p : Packet} {i : Instr} (h : decode p = .ok i) : opcodeOf i = p.opc := by
  rcases decode_ok_or_reserved p with ⟨j, hd, hopc⟩ | ⟨-, e, hd⟩
  · cases hd.symm.trans h
    exact hopc
  · cases hd.symm.trans h

/-- Settles O3: an opcode that is decoded is one of R49's eleven, hence none of the reserved ones. -/
theorem reservedOpcodesAreExactlyThese : Obligations.ReservedOpcodesAreExactlyThese := by
  intro p
  rw [← opc_toNat]
  rcases decode_ok_or_reserved p with ⟨i, hd, hopc⟩ | ⟨hreserved, hd⟩
  · have named := opcode_named i
    rw [hopc] at named
    simp only [hd, reduceCtorEq, exists_false, false_iff]
    omega
  · exact iff_of_true hd hreserved

/-! ### The bits an opcode names (R48) -/

/-- The named bits of the three words, by opcode (R50 to R57). -/
def fieldMasks (opc : BitVec 4) : Word × Word × Word :=
  match opc.toNat with
  | 0x1 => (0xFFFF000F, 0xFFFFFFFF, 0xFFFFFFFF)
  | 0x3 => (0x0000000F, 0xFFFFFFFF, 0xFFFFFFFF)
  | 0x2 | 0x7 => (0x0000000F, 0xFFFFFFFF, 0)
  | 0x4 => (0x0000000F, 0x0000FFFF, 0)
  | 0x5 | 0x6 => (0x0000000F, 0x000000FF, 0)
  | _ => (0x0000000F, 0, 0)

/-- A packet with the bits outside the masks cleared. -/
def keepFields (masks : Word × Word × Word) (p : Packet) : Packet :=
  ⟨p.w0 &&& masks.1, p.w1 &&& masks.2.1, p.w2 &&& masks.2.2⟩

/-- Zeros above the low `k` bits of a word are the word under the mask of these bits. -/
theorem zeros_append_low {m k : Nat} (x : BitVec (m + k)) :
    0#m ++ x.extractLsb' 0 k = x &&& (0#m ++ BitVec.allOnes k) := by
  calc 0#m ++ x.extractLsb' 0 k
      = (x.extractLsb' k m ++ x.extractLsb' 0 k) &&& (0#m ++ BitVec.allOnes k) := by
        rw [BitVec.and_append, BitVec.and_zero, BitVec.and_allOnes]
    _ = x &&& (0#m ++ BitVec.allOnes k) := by rw [BitVec.extractLsb'_append_extractLsb']

section

variable (w : Word) (p : Packet)

theorem halves_of_word : (w.extractLsb' 16 16 ++ w.extractLsb' 0 16 : Word) = w :=
  BitVec.extractLsb'_append_extractLsb' (w := 16) (len := 16)

theorem word_and_ones : w = w &&& 0xFFFFFFFF := BitVec.and_allOnes.symm

theorem word_and_none : 0 = w &&& 0 := BitVec.and_zero.symm

/-- Without a chip-select the header is the opcode alone. -/
theorem header_zero_opc : header 0 p.opc = p.w0 &&& 0x0000000F := by
  calc header 0 p.opc
      = 0#28 ++ p.opc := by
        apply BitVec.eq_of_toNat_eq
        rw [header_toNat]
        exact (append_toNat 0#28 p.opc).symm
    _ = p.w0 &&& 0x0000000F := zeros_append_low (m := 28) (k := 4) p.w0

theorem header_cs_opc : header p.cs p.opc = p.w0 &&& 0xFFFF000F := by
  have hopc : p.opc = (p.w0.extractLsb' 0 16).extractLsb' 0 4 := by
    apply BitVec.eq_of_toNat_eq
    simp [Packet.opc]
  calc header p.cs p.opc
      = p.cs ++ (0#12 ++ (p.w0.extractLsb' 0 16).extractLsb' 0 4) := by rw [hopc]; rfl
    _ = (p.cs &&& BitVec.allOnes 16) ++ (p.w0.extractLsb' 0 16 &&& (0#12 ++ BitVec.allOnes 4)) := by
        rw [BitVec.and_allOnes, ← zeros_append_low (m := 12) (k := 4) (p.w0.extractLsb' 0 16)]
    _ = (p.cs ++ p.w0.extractLsb' 0 16) &&& 0xFFFF000F := BitVec.and_append.symm
    _ = p.w0 &&& 0xFFFF000F := by rw [show p.cs ++ p.w0.extractLsb' 0 16 = p.w0 from halves_of_word p.w0]

theorem counts_of_packet : p.rbits ++ p.wbits = p.w1 &&& 0xFFFFFFFF :=
  (halves_of_word p.w1).trans (word_and_ones p.w1)

theorem half_of_packet : 0#16 ++ BitVec.ofInt 16 p.detune = p.w1 &&& 0x0000FFFF := by
  rw [Packet.detune, BitVec.ofInt_toInt]
  exact zeros_append_low (m := 16) (k := 16) p.w1

theorem byte_of_packet : 0#24 ++ p.code = p.w1 &&& 0x000000FF := zeros_append_low (m := 24) (k := 8) p.w1

end

theorem packet_eq {a a' b b' c c' : Word} (h0 : a = a') (h1 : b = b') (h2 : c = c') :
    Packet.mk a b c = ⟨a', b', c'⟩ := by
  rw [h0, h1, h2]

/-- A packet's named bits are the encoding of what it decodes to. -/
theorem encode_of_decode {p : Packet} {i : Instr} (h : decode p = .ok i) :
    encode i = keepFields (fieldMasks (opcodeOf i)) p := by
  have operands := operandsOf_of_decode h
  have hheader := header_zero_opc p
  have hcs := header_cs_opc p
  rw [← opcodeOf_of_decode h] at hheader hcs
  cases i with
  | transfer cs wbits wdata rbits =>
    obtain ⟨rfl, rfl, rfl, rfl⟩ := operands
    exact packet_eq hcs (counts_of_packet p) (word_and_ones _)
  | measure sourceIndex =>
    obtain rfl := operands
    exact packet_eq hheader (word_and_ones _) (word_and_none _)
  | setDco freqHz milliHz =>
    obtain ⟨rfl, rfl⟩ := operands
    exact packet_eq hheader (word_and_ones _) (word_and_ones _)
  | setDetune detune =>
    obtain rfl := operands
    exact packet_eq hheader (half_of_packet p) (word_and_none _)
  | setClockSource code =>
    obtain rfl := operands
    exact packet_eq hheader (byte_of_packet p) (word_and_none _)
  | setSpeedMode code =>
    obtain rfl := operands
    exact packet_eq hheader (byte_of_packet p) (word_and_none _)
  | configureRate rate =>
    obtain rfl := operands
    exact packet_eq hheader (word_and_ones _) (word_and_none _)
  | getDco | getDetune | getClockSource | getSpeedMode =>
    exact packet_eq hheader (word_and_none _) (word_and_none _)

/-- Only the detune could fail to fit, and it is read from 16 bits. -/
theorem wellFormed_of_decode {p : Packet} {i : Instr} (h : decode p = .ok i) : i.WellFormed = true := by
  have operands := operandsOf_of_decode h
  cases i with
  | setDetune detune =>
    have hwrap : wrapI16 p.detune = p.detune := congrArg BitVec.toInt BitVec.ofInt_toInt
    obtain rfl := operands
    exact hwrap ▸ fitsI16_wrapI16 p.detune
  | _ => rfl

/-- Every opcode's masks name the opcode. -/
theorem fieldMasks_name_opc (opc : BitVec 4) : (fieldMasks opc).1.extractLsb' 0 4 = BitVec.allOnes 4 := by
  revert opc
  decide

theorem opc_keepFields (opc : BitVec 4) (p : Packet) : (keepFields (fieldMasks opc) p).opc = p.opc := by
  simp only [keepFields, Packet.opc, BitVec.extractLsb'_and, fieldMasks_name_opc, BitVec.and_allOnes]

/-- Two packets with the same named bits have the same opcode, hence two commands with the same encoding. -/
theorem decode_of_same_fields {p q : Packet} {i : Instr} (h : decode p = .ok i)
    (hq : keepFields (fieldMasks (opcodeOf i)) q = keepFields (fieldMasks (opcodeOf i)) p) : decode q = .ok i := by
  have hopc : q.opc = opcodeOf i := by
    rw [← opc_keepFields (opcodeOf i) q, hq, opc_keepFields, opcodeOf_of_decode h]
  rcases decode_ok_or_reserved q with ⟨j, hd, hj⟩ | ⟨hreserved, -⟩
  · have henc : encode j = encode i := by
      rw [encode_of_decode hd, encode_of_decode h, hj, hopc, hq]
    calc decode q = .ok j := hd
      _ = decode (encode j) := (decode_encode (wellFormed_of_decode hd)).symm
      _ = decode (encode i) := by rw [henc]
      _ = .ok i := decode_encode (wellFormed_of_decode h)
  · have named := opcode_named i
    rw [hopc] at hreserved
    omega

/-- Settles O2: the masks written out are those of the command's opcode. -/
theorem onlyNamedFieldsDecide : Obligations.OnlyNamedFieldsDecide := by
  intro p q i h masks
  have hmasks : masks = fieldMasks (opcodeOf i) := by cases i <;> rfl
  rw [hmasks]
  exact ⟨encode_of_decode h, fun h0 h1 h2 => decode_of_same_fields h (packet_eq h0 h1 h2)⟩

/-! ### The assembler's lines (R62) -/

theorem toNat_ofInt_of_fitsU {n : Nat} {v : Int} (h : fitsU n v = true) : ((BitVec.ofInt n v).toNat : Int) = v := by
  simp only [fitsU, Bool.and_eq_true, decide_eq_true_eq] at h
  obtain ⟨nonneg, lt⟩ := h
  have hmod : v % (2 ^ n : Nat) = v := Int.emod_eq_of_lt nonneg (mod_cast lt)
  rw [BitVec.toNat_ofInt, hmod, Int.toNat_of_nonneg nonneg]

/-- `trunc_16` of a number, cut to its signed value first or not. -/
theorem toNat_ofInt_wrapI16 (cents : Int) : ((BitVec.ofInt 16 (wrapI16 cents)).toNat : Int) = cents % 65536 := by
  rw [wrapI16, BitVec.ofInt_toInt, BitVec.toNat_ofInt, Int.toNat_of_nonneg (Int.emod_nonneg _ (by decide))]
  rfl

/-- The three words of a packet as numbers. -/
def wordNumbers (p : Packet) : Int × Int × Int := (p.w0.toNat, p.w1.toNat, p.w2.toNat)

/-- R62's table: the words of a line in the line's own numbers, a pseudo-instruction's those of its expansion. -/
def lineWords : AsmLine → Int × Int × Int
  | .transfer cs wbits wdata rbits => (cs * 65536 + 0x1, rbits * 65536 + wbits, wdata)
  | .measure idx => (0x2, idx, 0)
  | .setDco hz millis => (0x3, hz, millis)
  | .setDetune cents => (0x4, cents % 65536, 0)
  | .setClockSource code => (0x5, code, 0)
  | .setSpeedMode mult => (0x6, mult, 0)
  | .configureRate hz => (0x7, hz, 0)
  | .getDco => (0x8, 0, 0)
  | .getDetune => (0x9, 0, 0)
  | .getClockSource => (0xA, 0, 0)
  | .getSpeedMode => (0xB, 0, 0)
  | .spiWrite cs wbits wdata => (cs * 65536 + 0x1, wbits, wdata)
  | .spiRead cs rbits => (cs * 65536 + 0x1, rbits * 65536, 0)
  | .setFreq hz => (0x3, hz, 0)

theorem expand_wellFormed (l : AsmLine) : l.expand.WellFormed = l.WellFormed := by
  cases l with
  | spiWrite | spiRead | setFreq => simp [AsmLine.expand, AsmLine.WellFormed, fitsU]
  | _ => rfl

theorem expand_toInstr (l : AsmLine) : l.expand.toInstr = l.toInstr := by
  cases l <;> rfl

theorem toInstr_wellFormed (l : AsmLine) : l.toInstr.WellFormed = true := by
  cases l with
  | setDetune cents => exact fitsI16_wrapI16 cents
  | _ => rfl

/-- The words of a line that fits are those of the table: each operand is the number of the field it was cut to. -/
theorem wordNumbers_encode {l : AsmLine} (h : l.WellFormed = true) : wordNumbers (encode l.toInstr) = lineWords l := by
  cases l with
  | transfer | spiWrite | spiRead =>
    simp only [AsmLine.WellFormed, Bool.and_eq_true] at h
    simp [wordNumbers, lineWords, AsmLine.toInstr, encode, opcodeOf, header_toNat, counts_toNat, toNat_ofInt_of_fitsU, h,
      -BitVec.toNat_append, -BitVec.toNat_ofInt]
  | measure | setDco | configureRate | setFreq =>
    simp only [AsmLine.WellFormed, Bool.and_eq_true] at h
    simp [wordNumbers, lineWords, AsmLine.toInstr, encode, opcodeOf, header_toNat, toNat_ofInt_of_fitsU, h,
      -BitVec.toNat_ofInt]
  | setDetune cents =>
    simp [wordNumbers, lineWords, AsmLine.toInstr, encode, opcodeOf, header_toNat, half_toNat, toNat_ofInt_wrapI16,
      -BitVec.toNat_append, -BitVec.toNat_ofInt]
  | setClockSource | setSpeedMode =>
    simp [wordNumbers, lineWords, AsmLine.toInstr, encode, opcodeOf, header_toNat, byte_toNat, toNat_ofInt_of_fitsU h,
      -BitVec.toNat_append, -BitVec.toNat_ofInt]
  | getDco | getDetune | getClockSource | getSpeedMode => rfl

theorem assemble_of_wellFormed {l : AsmLine} (h : l.WellFormed = true) : assemble l = some (encode l.toInstr) := if_pos h

theorem assemble_expand (l : AsmLine) : assemble l.expand = assemble l := by
  simp only [assemble, expand_wellFormed, expand_toInstr]

/-- Settles O5: the packet is the encoding of the line's command, which is well-formed, the detune being cut to 16
bits. -/
theorem assembledLinesDecode : Obligations.AssembledLinesDecode := by
  intro l hwf
  have hdecode := decode_encode (toInstr_wellFormed l)
  have hassemble := assemble_of_wellFormed hwf
  refine ⟨encode l.toInstr, hassemble, (assemble_expand l).trans hassemble, hdecode, ?_, ?_, ?_, ?_, ?_⟩
  · refine (wordNumbers_encode hwf).trans ?_
    cases l <;> rfl
  · rintro cents rfl
    exact ⟨wrapI16 cents, hdecode, wrapI16_spec cents⟩
  · rintro cs wbits wdata rfl
    rfl
  · rintro cs rbits rfl
    rfl
  · rintro hz rfl
    rfl

/-! ### Words of the manual (95_test_vectors.md V1) -/

/-- Settles O4: each packet is closed, so the decoder runs. -/
theorem wordsOfTheManualDecode : Obligations.WordsOfTheManualDecode := by
  unfold Obligations.WordsOfTheManualDecode
  decide

/-! ### The fields of RSP0 (R59 to R61) -/

/-- RSP0 laid out: COUNT in 18:16, PREPOLL_TIMEOUT in 8, STATUS in 3:0, zeros in the other bits (R59). -/
theorem rsp0Word_eq_append (e : Status) (b : Bool) {n : Nat} (h : n < 8) :
    rsp0Word e b n = 0#13 ++ BitVec.ofNat 3 n ++ 0#7 ++ BitVec.ofBool b ++ 0#4 ++ BitVec.ofNat 4 e.code := by
  interval_cases n <;> cases b <;> cases e <;> rfl

section

variable (e : Status) (b : Bool) {n : Nat} (h : n < 8) (r1 r2 : Word)

include h

theorem status_of_rsp0Word : (Response.status ⟨rsp0Word e b n, r1, r2⟩).toNat = e.code := by
  have hcode : e.code < 16 := by cases e <;> decide
  rw [Response.status, rsp0Word_eq_append e b h, BitVec.extractLsb'_append_eq_right, BitVec.toNat_ofNat]
  exact Nat.mod_eq_of_lt hcode

theorem prepollTimeout_of_rsp0Word : Response.prepollTimeout ⟨rsp0Word e b n, r1, r2⟩ = b := by
  simp only [Response.prepollTimeout, rsp0Word_eq_append e b h, BitVec.getLsbD_append]
  simp

theorem count_of_rsp0Word : (Response.count ⟨rsp0Word e b n, r1, r2⟩).toNat = n := by
  have hfield : Response.count ⟨rsp0Word e b n, r1, r2⟩ = BitVec.ofNat 3 n := by
    rw [Response.count, rsp0Word_eq_append e b h]
    iterate 4 rw [BitVec.extractLsb'_append_eq_of_le (by decide)]
    exact BitVec.extractLsb'_append_eq_right
  rw [hfield, BitVec.toNat_ofNat]
  exact Nat.mod_eq_of_lt h

/-- None of the three parts that make RSP0 has a bit where the mask has one. -/
theorem rsp0Word_and_zeroBits : rsp0Word e b n &&& rsp0ZeroBits = 0 := by
  have hstatus : BitVec.ofNat 32 e.code &&& rsp0ZeroBits = 0 := by cases e <;> rfl
  have hflag : (if b then 1#32 else 0#32) <<< 8 &&& rsp0ZeroBits = 0 := by cases b <;> rfl
  have hcount : BitVec.ofNat 32 n <<< 16 &&& rsp0ZeroBits = 0 := by interval_cases n <;> rfl
  simp only [rsp0Word, BitVec.and_or_distrib_right, hstatus, hflag, hcount]
  rfl

end

/-- Settles O51: the fields of a response are those of its RSP0, whose flag is the pre-poll flag of the state. -/
theorem responseWordHasItsFields : Obligations.ResponseWordHasItsFields := by
  intro e b n r1 r2 s hn hflag
  have hcount : n < 8 := by omega
  rw [respond_rsp, hflag]
  refine ⟨(status_of_rsp0Word e b hcount r1 r2).trans ?_, prepollTimeout_of_rsp0Word e b hcount r1 r2,
    count_of_rsp0Word e b hcount r1 r2, rsp0Word_and_zeroBits e b hcount, rfl, rfl⟩
  cases e <;> rfl

end Sys2Proof.Proofs
end

section
/-! The register port's polls and readiness tests (spec/40_register_port.md R67 to R69; 10_state.md R21): a whole poll is
its loop from a counter of 0, and each test and the period as a comparison or a number of the bits it reads. -/

namespace Sys2Proof.Proofs

open Sys2Proof Sys2Proof.Machine Sys2Proof.Laws

/-! ### The bounded poll (R67) -/

/-- Settles O15: the poll is the loop of `pollLoop_spec` begun with no try made, and setting the counter changes nothing
else. -/
theorem pollIsBounded : Obligations.PollIsBounded := by
  intro r test T s
  obtain ⟨es, hevents, htrace, htries, hbound, hlatch, hanswered, hpolled⟩ := pollLoop_spec r test T (s.setTries 0)
  have hcount : (pollReady r test T s).2.hid.tries = (readValues es).length := htries.trans (Nat.zero_add _)
  exact ⟨es, hevents, htrace, hcount, hbound, hlatch, { hanswered with }, hpolled.S, hpolled.rsp, hpolled.busy,
    hpolled.done, hpolled.seq, hpolled.prepollTimeout, hpolled.pendingDco, { hpolled with }⟩

/-! ### The readiness tests (R68, R69) -/

/-- Bit 31 is the top bit of a register word, so the measurement test is a comparison (R69). -/
theorem measReady_iff (v : Word) : measReady v = true ↔ 2 ^ 31 ≤ v.toNat := by
  have hmsb : measReady v = v.msb := (BitVec.msb_eq_getLsbD_last v).symm
  rw [hmsb, BitVec.msb_eq_decide, decide_eq_true_iff]

theorem busReady_iff (p : Params) (v : Word) : busReady p v = true ↔ v &&& p.busReadyMask = p.busReadyValue := by
  rw [busReady, beq_iff_eq]

/-- Words that agree under the mask are alike to the bus test (R68). -/
theorem busReady_congr {p : Params} {v w : Word} (h : v &&& p.busReadyMask = w &&& p.busReadyMask) :
    busReady p v = busReady p w := by
  rw [busReady, busReady, h]

/-- Under a full mask the bus test matches the whole word (R68). -/
theorem busReady_of_fullMask {p : Params} (h : p.busReadyMask = 0xFFFFFFFF) (v : Word) :
    busReady p v = true ↔ v = p.busReadyValue := by
  have hmask : p.busReadyMask = BitVec.allOnes 32 := h
  rw [busReady_iff, hmask, BitVec.and_allOnes]

/-! ### The period (R21) -/

/-- The period is the word masked to bits 17:0. -/
theorem measPeriod_eq_masked (v : Word) : measPeriod v = (v &&& 0x0003FFFF).toNat :=
  calc measPeriod v = v.toNat &&& (2 ^ measPeriodBits - 1) := (Nat.and_two_pow_sub_one_eq_mod _ _).symm
    _ = (v &&& 0x0003FFFF).toNat := (BitVec.toNat_and v 0x0003FFFF).symm

theorem measPeriod_congr {v w : Word} (h : v &&& 0x0003FFFF = w &&& 0x0003FFFF) : measPeriod v = measPeriod w := by
  rw [measPeriod_eq_masked, measPeriod_eq_masked, h]

theorem measPeriod_lt (v : Word) : measPeriod v < 262144 :=
  Nat.mod_lt _ (by decide)

/-- Settles O17: the measurement test compares with bit 31's weight, the bus test and the period read a masked word. -/
theorem readinessTestsReadOnlyTheirBits : Obligations.ReadinessTestsReadOnlyTheirBits :=
  ⟨measReady_iff, busReady_iff, fun _ _ _ => busReady_congr, fun _ v h => busReady_of_fullMask h v,
    fun _ _ => measPeriod_congr, fun v => ⟨rfl, measPeriod_lt v⟩⟩

end Sys2Proof.Proofs
end

section
/-! The control bus's payload words (spec/41_control_bus.md R75, R77, R80; 30_encoding.md R59): packing and unpacking
are shifts, and one undoes the other up to the bits that do not travel. -/

namespace Sys2Proof.Proofs

open Sys2Proof Sys2Proof.Machine

/-! ### Packing (R75) -/

theorem pack_eq_ushiftRight (w : Word) {n : Nat} (hn : n ≤ 32) : pack w n = w >>> (32 - n) := by
  unfold pack busMaxBits
  split
  · next hzero =>
    subst hzero
    exact (BitVec.ushiftRight_eq_zero (Nat.le_refl 32)).symm
  · apply BitVec.eq_of_toNat_eq
    rw [BitVec.toNat_ofNat, BitVec.toNat_ushiftRight, Nat.shiftRight_eq_div_pow]
    exact Nat.mod_eq_of_lt (lt_of_le_of_lt (Nat.div_le_self _ _) w.isLt)

/-- Settles O20: packing is a logical shift to the right, whose bits and value are the library's. -/
theorem packPlacesTheFirstBits : Obligations.PackPlacesTheFirstBits := by
  intro w n hn
  rw [pack_eq_ushiftRight w hn]
  refine ⟨fun j => ?_, fun hzero => ?_, fun _ => ?_⟩
  · rw [BitVec.getLsbD_ushiftRight]
    by_cases hj : j < n
    · simp [hj]
    · simp [hj, BitVec.getLsbD_of_ge w (32 - n + j) (by omega)]
  · rw [hzero]
    exact BitVec.ushiftRight_eq_zero (Nat.le_refl 32)
  · rw [BitVec.toNat_ushiftRight, Nat.shiftRight_eq_div_pow]

/-! ### Unpacking (R77) -/

theorem unpack_eq_shiftLeft (d : Word) (n : Nat) : unpack d n = d <<< (32 - n) := by
  apply BitVec.eq_of_toNat_eq
  rw [unpack, BitVec.toNat_ofNat, BitVec.toNat_shiftLeft, Nat.shiftLeft_eq]
  rfl

theorem getLsbD_unpack (d : Word) (n j : Nat) :
    (unpack d n).getLsbD j = (decide (32 - n ≤ j ∧ j < 32) && d.getLsbD (j - (32 - n))) := by
  rw [unpack_eq_shiftLeft, BitVec.getLsbD_shiftLeft]
  by_cases hlow : j < 32 - n
  · have hout : ¬ (32 - n ≤ j ∧ j < 32) := by omega
    rw [decide_eq_false hout, decide_eq_true hlow]
    simp
  · have hin : (32 - n ≤ j ∧ j < 32) ↔ j < 32 := by omega
    simp only [hin, hlow, decide_false, Bool.not_false, Bool.and_true]

/-- COUNT is the least number of bytes that hold `n` bits (R59). -/
theorem byteCount_bounds (n : Nat) : n ≤ 8 * byteCount n ∧ 8 * byteCount n < n + 8 := by
  unfold byteCount
  omega

/-- The bits of a byte beyond COUNT lie below the `n` bits that were read. -/
theorem payloadByte_unpack_eq_zero (d : Word) {n k : Nat} (hk : byteCount n ≤ k) (hk4 : k < 4) :
    payloadByte (unpack d n) k = 0 := by
  obtain ⟨hcover, -⟩ := byteCount_bounds n
  apply BitVec.eq_of_getLsbD_eq
  intro j hj
  have hbelow : ¬ (32 - n ≤ 24 - 8 * k + j ∧ 24 - 8 * k + j < 32) := by omega
  rw [payloadByte, BitVec.getLsbD_extractLsb', getLsbD_unpack, decide_eq_false hbelow]
  simp

/-- Settles O21: unpacking is a shift to the left, and COUNT is the ceiling of `n / 8`. -/
theorem unpackLeftAlignsTheRead : Obligations.UnpackLeftAlignsTheRead := by
  intro d n hn hn32
  obtain ⟨hcover, hleast⟩ := byteCount_bounds n
  exact ⟨getLsbD_unpack d n, fun k hk hk4 => payloadByte_unpack_eq_zero d hk hk4, by omega, hcover, by omega, by omega⟩

/-! ### The round trip (R80) -/

/-- What was packed and is unpacked again is the payload with the bits after the first `n` cleared. -/
theorem unpack_pack (w : Word) {n : Nat} (hn : n ≤ 32) :
    unpack (pack w n) n = w &&& (0xFFFFFFFF#32 <<< (32 - n)) := by
  have hones : 0xFFFFFFFF#32 = BitVec.allOnes 32 := rfl
  rw [unpack_eq_shiftLeft, pack_eq_ushiftRight w hn, hones]
  apply BitVec.eq_of_getLsbD_eq
  intro j hj
  simp only [BitVec.getLsbD_shiftLeft, BitVec.getLsbD_ushiftRight, BitVec.getLsbD_and, BitVec.getLsbD_allOnes]
  by_cases hlow : j < 32 - n
  · simp [hlow]
  · have hbit : 32 - n + (j - (32 - n)) = j := by omega
    have hin : j - (32 - n) < 32 := by omega
    simp [hlow, hj, hbit, hin]

end Sys2Proof.Proofs
end

section
/-! TRANSFER step by step (spec/41_control_bus.md R72 to R80): the events each step of R72 records, for every device and
for a device whose answers are given, and the command put together from its steps. -/

namespace Sys2Proof.Proofs

open Sys2Proof Sys2Proof.Machine Sys2Proof.Laws

/-! ### The events a part of a command records (R8) -/

/-- From `s` to `t` the engine has recorded `es`, taken an answer for each read, and computed no divider word. -/
structure Recorded (s t : State) (es : List Event) : Prop where
  cfg        : t.cfg = s.cfg
  trace      : t.trace = s.trace ++ es
  answered   : Answered s t es
  pendingDco : t.hid.pendingDco = s.hid.pendingDco

namespace Recorded

variable {s t u : State} {es fs : List Event}

theorem refl (s : State) : Recorded s s [] :=
  ⟨rfl, (List.append_nil _).symm, Answered.of_no_reads rfl rfl rfl, rfl⟩

theorem trans (h1 : Recorded s t es) (h2 : Recorded t u fs) : Recorded s u (es ++ fs) :=
  ⟨h2.cfg.trans h1.cfg, by rw [h2.trace, h1.trace, List.append_assoc], Answered.trans h1.answered h2.answered,
    h2.pendingDco.trans h1.pendingDco⟩

theorem regWrite {p : Params} (hp : s.cfg.params = p) (r : DevReg) (v : Word) :
    Recorded s (regWrite r v s) [.write (p.offset r) v] :=
  ⟨rfl, by rw [regWrite_trace, hp], Answered.of_no_reads rfl rfl rfl, rfl⟩

theorem regRead {p : Params} (hp : s.cfg.params = p) (r : DevReg) :
    Recorded s (regRead r s).2 [.read (p.offset r) (regRead r s).1] := by
  subst hp
  exact ⟨rfl, rfl, Answered.of_read (off := s.cfg.params.offset r) rfl rfl rfl, rfl⟩

theorem diag (g : DiagTag) (s : State) : Recorded s (diag g s) [.log g] :=
  ⟨rfl, rfl, Answered.of_no_reads rfl rfl rfl, rfl⟩

theorem flagPrepollTimeout (h : Recorded s t es) : Recorded s t.flagPrepollTimeout es :=
  ⟨h.cfg, h.trace, { h.answered with }, h.pendingDco⟩

theorem respond (h : Recorded s t es) (e : Status) (r1 r2 : Word) (n : Nat) : Recorded s (respond e r1 r2 n t) es :=
  ⟨h.cfg, h.trace, { h.answered with }, h.pendingDco⟩

/-- The events a part recorded are what the trace has more, however it is written. -/
theorem of_trace (h : Recorded s t es) (htrace : t.trace = s.trace ++ fs) : Recorded s t fs := by
  rwa [List.append_cancel_left (h.trace.symm.trans htrace)] at h

/-- A device that gives just the answers the part reads has given them all. -/
theorem answers_of_given {rest : List Word} (h : Recorded s t es) (hgiven : s.answers = readValues es ++ rest) :
    t.answers = rest := by
  rw [h.answered.answers, hgiven, List.drop_left]

end Recorded

/-! ### Polls (R67) -/

section
variable {r : DevReg} {test : Word → Bool} {T : Nat} {s t : State} {res : PollResult}

theorem pollReady_recorded (h : pollReady r test T s = (res, t)) :
    ∃ es, PollEvents (s.cfg.params.offset r) test T es res ∧ Recorded s t es := by
  obtain ⟨es, hevents, htrace, -, -, -, hanswered, hpolled⟩ := pollLoop_spec r test T (s.setTries 0)
  rw [show pollLoop r test T (s.setTries 0) = (res, t) from h] at hevents htrace hanswered hpolled
  exact ⟨es, hevents, hpolled.cfg, htrace, { hanswered with }, hpolled.pendingDco⟩

theorem pollReady_keeps_prepollTimeout (h : pollReady r test T s = (res, t)) :
    t.hid.prepollTimeout = s.hid.prepollTimeout := by
  obtain ⟨hpolled, -⟩ := pollReady_keeps h
  exact hpolled.prepollTimeout

/-- On a device whose next T answers all fail, the poll reads these and times out. -/
theorem pollReady_of_failing {vs rest : List Word} (hvs : vs.length = T) (hfail : ∀ v ∈ vs, test v = false)
    (hanswers : s.answers = vs ++ rest) :
    ∃ t, pollReady r test T s = (.timeout, t) ∧ Recorded s t (vs.flatMap (failedTry (s.cfg.params.offset r))) := by
  obtain ⟨t, hloop, -, htrace, -, -⟩ := pollLoop_fails r test vs 0 (s.setTries 0) rest hfail hanswers
  have hpoll : pollReady r test T s = (.timeout, t) := hvs ▸ hloop
  obtain ⟨es, -, hes⟩ := pollReady_recorded hpoll
  exact ⟨t, hpoll, hes.of_trace htrace⟩

/-- On a device that is ready at once, the poll makes one read. -/
theorem pollReady_of_ready {v : Word} {rest : List Word} (hready : test v = true) (hanswers : s.answers = v :: rest) :
    ∃ t, pollReady r test (T + 1) s = (.ready v, t) ∧ Recorded s t [.read (s.cfg.params.offset r) v] := by
  have hanswer : deviceAnswer (s.cfg.params.offset r) (s.setTries 0) = v := deviceAnswer_cons _ _ v rest hanswers
  have hpoll : pollReady r test (T + 1) s = (.ready v, (pollRead r (s.setTries 0)).2) := by
    rw [pollReady, pollLoop_succ, setTries_cfg, hanswer, if_pos hready]
  have htrace : (pollRead r (s.setTries 0)).2.trace = s.trace ++ [.read (s.cfg.params.offset r) v] := by
    rw [pollRead_trace, setTries_cfg, hanswer, setTries_trace]
  obtain ⟨es, -, hes⟩ := pollReady_recorded hpoll
  exact ⟨_, hpoll, hes.of_trace htrace⟩

end

/-! ### The steps of TRANSFER (R72) -/

/-- What the recovery from a pre-poll records: after a timeout the reset sentinel and the log record (R73). -/
def recoveryEvents (p : Params) (res : PollResult) : List Event :=
  if res = .timeout then [.write p.regBusStatus p.busResetValue, .log .prepollTimeout] else []

/-- Chip-select and both counts, zero-extended, in this order (R74). -/
def setupEvents (p : Params) (cs wbits rbits : Half) : List Event :=
  [.write p.regBusCs (cs.setWidth 32), .write p.regBusWbits (wbits.setWidth 32),
   .write p.regBusRbits (rbits.setWidth 32)]

/-- The packed payload, where at most 32 bits are written (R75). -/
def dataEvents (p : Params) (wbits : Half) (wdata : Word) : List Event :=
  if wbits.toNat ≤ 32 then [.write p.regBusData (pack wdata wbits.toNat)] else []

theorem dataEvents_of_writes {p : Params} {wbits : Half} (h : wbits.toNat ≤ 32) (wdata : Word) :
    dataEvents p wbits wdata = [.write p.regBusData (pack wdata wbits.toNat)] := if_pos h

theorem dataEvents_of_no_write {p : Params} {wbits : Half} (h : ¬ wbits.toNat ≤ 32) (wdata : Word) :
    dataEvents p wbits wdata = [] := if_neg h

@[simp] theorem readValues_recoveryEvents (p : Params) (res : PollResult) : readValues (recoveryEvents p res) = [] := by
  cases res <;> rfl

@[simp] theorem readValues_setupEvents (p : Params) (cs wbits rbits : Half) :
    readValues (setupEvents p cs wbits rbits) = [] := rfl

@[simp] theorem readValues_dataEvents (p : Params) (wbits : Half) (wdata : Word) :
    readValues (dataEvents p wbits wdata) = [] := by
  unfold dataEvents
  split <;> rfl

section
variable {s t : State}

/-- After a pre-poll of known outcome: its events, the recovery's, and the flag (R73). -/
theorem transferPrepoll_of_poll {res : PollResult} {pre : List Event}
    (hpoll : pollReady .busStatus (busReady s.cfg.params) busPollTries s = (res, t)) (hpre : Recorded s t pre)
    (hflag : s.hid.prepollTimeout = false) :
    Recorded s (transferPrepoll s) (pre ++ recoveryEvents s.cfg.params res) ∧
      (transferPrepoll s).hid.prepollTimeout = decide (res = .timeout) := by
  rw [transferPrepoll, hpoll]
  cases res with
  | ready v => exact ⟨hpre.trans (Recorded.refl t), (pollReady_keeps_prepollTimeout hpoll).trans hflag⟩
  | timeout =>
    have hreset := Recorded.regWrite (congrArg _ hpre.cfg) .busStatus s.cfg.params.busResetValue
    exact ⟨hpre.trans ((hreset.trans (Recorded.diag .prepollTimeout _)).flagPrepollTimeout), rfl⟩

theorem transferSetup_recorded (cs wbits rbits : Half) (s : State) :
    Recorded s (transferSetup cs wbits rbits s) (setupEvents s.cfg.params cs wbits rbits) :=
  ((Recorded.regWrite rfl .busCs _).trans (Recorded.regWrite rfl .busWbits _)).trans (Recorded.regWrite rfl .busRbits _)

theorem transferWriteData_of_writes {wbits : Half} (h : wbits.toNat ≤ 32) (wdata : Word) (s : State) :
    transferWriteData wbits wdata s = regWrite .busData (pack wdata wbits.toNat) s :=
  if_pos (decide_eq_true h)

theorem transferWriteData_of_no_write {wbits : Half} (h : ¬ wbits.toNat ≤ 32) (wdata : Word) (s : State) :
    transferWriteData wbits wdata s = s :=
  if_neg (by rw [writesData, decide_eq_true_eq]; exact h)

theorem transferWriteData_keeps_prepollTimeout (wbits : Half) (wdata : Word) (s : State) :
    (transferWriteData wbits wdata s).hid.prepollTimeout = s.hid.prepollTimeout := by
  unfold transferWriteData
  split <;> rfl

theorem transferWriteData_recorded (wbits : Half) (wdata : Word) (s : State) :
    Recorded s (transferWriteData wbits wdata s) (dataEvents s.cfg.params wbits wdata) := by
  by_cases h : wbits.toNat ≤ 32
  · rw [transferWriteData_of_writes h, dataEvents_of_writes h]
    exact Recorded.regWrite rfl .busData _
  · rw [transferWriteData_of_no_write h, dataEvents_of_no_write h]
    exact Recorded.refl s

/-- The state in which TRANSFER has written all it writes, and turns to the read half (R72 steps 1 to 4). -/
def transferWritten (cs wbits : Half) (wdata : Word) (rbits : Half) (s : State) : State :=
  transferWriteData wbits wdata (transferSetup cs wbits rbits (transferPrepoll s))

theorem exec_transfer (cs wbits : Half) (wdata : Word) (rbits : Half) (s : State) :
    exec (.transfer cs wbits wdata rbits) s = .next (transferRead rbits (transferWritten cs wbits wdata rbits s)) := rfl

/-- Steps 1 to 4 after a pre-poll of known outcome. -/
theorem transferWritten_of_poll {res : PollResult} {pre : List Event}
    (hpoll : pollReady .busStatus (busReady s.cfg.params) busPollTries s = (res, t)) (hpre : Recorded s t pre)
    (hflag : s.hid.prepollTimeout = false) (cs wbits : Half) (wdata : Word) (rbits : Half) :
    Recorded s (transferWritten cs wbits wdata rbits s)
        (pre ++ recoveryEvents s.cfg.params res ++ setupEvents s.cfg.params cs wbits rbits
          ++ dataEvents s.cfg.params wbits wdata) ∧
      (transferWritten cs wbits wdata rbits s).hid.prepollTimeout = decide (res = .timeout) := by
  obtain ⟨hrecovered, hflagged⟩ := transferPrepoll_of_poll hpoll hpre hflag
  have hsetup := transferSetup_recorded cs wbits rbits (transferPrepoll s)
  rw [hrecovered.cfg] at hsetup
  have hcounts := hrecovered.trans hsetup
  have hdata := transferWriteData_recorded wbits wdata (transferSetup cs wbits rbits (transferPrepoll s))
  rw [hcounts.cfg] at hdata
  exact ⟨hcounts.trans hdata, (transferWriteData_keeps_prepollTimeout ..).trans hflagged⟩

end

/-! ### The read half of TRANSFER (R76, R77) -/

section
variable {rbits : Half} {s t : State}

theorem transferRead_of_no_read (h : ¬ (1 ≤ rbits.toNat ∧ rbits.toNat ≤ 32)) :
    transferRead rbits s = respond .ok 0 0 0 s := by
  rw [transferRead, if_neg (mt (readsData_iff rbits).mp h)]

/-- TIMEOUT comes from the read poll. -/
theorem transferRead_of_timeout (h : 1 ≤ rbits.toNat ∧ rbits.toNat ≤ 32)
    (hpoll : pollReady .busStatus (busReady s.cfg.params) busPollTries s = (.timeout, t)) :
    transferRead rbits s = raise .timeout t := by
  rw [transferRead, if_pos ((readsData_iff rbits).mpr h), hpoll]

theorem transferRead_of_ready {v : Word} (h : 1 ≤ rbits.toNat ∧ rbits.toNat ≤ 32)
    (hpoll : pollReady .busStatus (busReady s.cfg.params) busPollTries s = (.ready v, t)) :
    transferRead rbits s = respond .ok (unpack (regRead .busData t).1 rbits.toNat) 0 (byteCount rbits.toNat)
      (regRead .busData t).2 := by
  rw [transferRead, if_pos ((readsData_iff rbits).mpr h), hpoll]

/-- What the read half records and answers under the flag of the pre-poll: nothing read and OK, or the failed poll and
TIMEOUT, or the poll, one data read and OK with the word unpacked. -/
def ReadHalf (p : Params) (rbits : Half) (flag : Bool) (rd : List Event) (rsp : Response) : Prop :=
  (¬ (1 ≤ rbits.toNat ∧ rbits.toNat ≤ 32) → rd = [] ∧ rsp = ⟨rsp0Word .ok flag 0, 0, 0⟩) ∧
  (1 ≤ rbits.toNat ∧ rbits.toNat ≤ 32 →
    (PollEvents p.regBusStatus (busReady p) 10 rd .timeout ∧ rsp = ⟨rsp0Word .timeout flag 0, 0, 0⟩) ∨
    (∃ (poll : List Event) (v d : Word), PollEvents p.regBusStatus (busReady p) 10 poll (.ready v) ∧
      rd = poll ++ [.read p.regBusData d] ∧
      rsp = ⟨rsp0Word .ok flag (byteCount rbits.toNat), unpack d rbits.toNat, 0⟩))

theorem transferRead_spec (rbits : Half) (s : State) :
    ∃ rd, ReadHalf s.cfg.params rbits s.hid.prepollTimeout rd (transferRead rbits s).rsp ∧
      Recorded s (transferRead rbits s) rd ∧ (transferRead rbits s).hid.prepollTimeout = s.hid.prepollTimeout := by
  by_cases h : 1 ≤ rbits.toNat ∧ rbits.toNat ≤ 32
  · rcases hpoll : pollReady .busStatus (busReady s.cfg.params) busPollTries s with ⟨res, t⟩
    obtain ⟨poll, hevents, hrecorded⟩ := pollReady_recorded hpoll
    have hflag := pollReady_keeps_prepollTimeout hpoll
    cases res with
    | timeout =>
      rw [transferRead_of_timeout h hpoll, ← hflag]
      exact ⟨poll, ⟨absurd h, fun _ => .inl ⟨hevents, rfl⟩⟩, hrecorded.respond .timeout 0 0 0, rfl⟩
    | ready v =>
      rw [transferRead_of_ready h hpoll, ← hflag]
      have hread := hrecorded.trans (Recorded.regRead (congrArg _ hrecorded.cfg) .busData)
      exact ⟨_, ⟨absurd h, fun _ => .inr ⟨poll, v, _, hevents, rfl, rfl⟩⟩, hread.respond .ok _ 0 _, rfl⟩
  · rw [transferRead_of_no_read h]
    exact ⟨[], ⟨fun _ => ⟨rfl, rfl⟩, (absurd · h)⟩, (Recorded.refl s).respond .ok 0 0 0, rfl⟩

end

/-! ### The whole command -/

/-- Settles O19: the events of steps 1 to 4 after the pre-poll, then those of the read half. -/
theorem transferFollowsItsAlgorithm : Obligations.TransferFollowsItsAlgorithm := by
  intro cs wbits wdata rbits s hflag
  rcases hpoll : pollReady .busStatus (busReady s.cfg.params) busPollTries s with ⟨res, u⟩
  obtain ⟨pre, hevents, hpre⟩ := pollReady_recorded hpoll
  obtain ⟨hwritten, hflagged⟩ := transferWritten_of_poll hpoll hpre hflag cs wbits wdata rbits
  obtain ⟨rd, hhalf, hrd, hkeeps⟩ := transferRead_spec rbits (transferWritten cs wbits wdata rbits s)
  rw [hwritten.cfg, hflagged] at hhalf
  obtain ⟨hnoRead, hread⟩ := hhalf
  have hall := hwritten.trans hrd
  obtain ⟨t, ht, hdrove, hpublished⟩ := completes_transfer cs wbits wdata rbits s
  obtain rfl := Host.Outcome.next.inj ht
  exact ⟨_, pre, res, rd, rfl, hevents, hall.trace, hnoRead, hread, execTransfer_keeps_S ht, hkeeps.trans hflagged,
    hall.pendingDco, hdrove.untouched, hpublished, fun _ htrace => (hall.of_trace htrace).answered⟩

/-! ### Devices whose answers are given (R80, 95_test_vectors.md Ex5) -/

section
variable {rest : List Word} {rbits : Half} {s : State} (hguard : 1 ≤ rbits.toNat ∧ rbits.toNat ≤ 32)
  (hflag : s.hid.prepollTimeout = false)
include hguard hflag

/-- On a bus that is ready at both polls, TRANSFER reads the data register and answers OK with the word unpacked. -/
theorem transfer_of_ready_bus {r1 r2 d : Word} (hready1 : busReady s.cfg.params r1 = true)
    (hready2 : busReady s.cfg.params r2 = true) (hanswers : s.answers = r1 :: r2 :: d :: rest) (cs wbits : Half)
    (wdata : Word) :
    ∃ t, exec (.transfer cs wbits wdata rbits) s = .next t ∧
      Recorded s t ([.read s.cfg.params.regBusStatus r1] ++ setupEvents s.cfg.params cs wbits rbits
        ++ dataEvents s.cfg.params wbits wdata
        ++ ([.read s.cfg.params.regBusStatus r2] ++ [.read s.cfg.params.regBusData d])) ∧
      t.rsp = ⟨rsp0Word .ok false (byteCount rbits.toNat), unpack d rbits.toNat, 0⟩ := by
  obtain ⟨s1, hpoll1, hpre⟩ := pollReady_of_ready (r := .busStatus) (T := 9) hready1 hanswers
  obtain ⟨hwritten, hflagged⟩ := transferWritten_of_poll hpoll1 hpre hflag cs wbits wdata rbits
  have hanswers2 : (transferWritten cs wbits wdata rbits s).answers = r2 :: d :: rest :=
    hwritten.answers_of_given (by simp [hanswers])
  rw [← hwritten.cfg] at hready2
  obtain ⟨s2, hpoll2, hpoll⟩ := pollReady_of_ready (r := .busStatus) (T := 9) hready2 hanswers2
  have hread := Recorded.regRead (congrArg _ hpoll.cfg) .busData
  have hanswer : (regRead .busData s2).1 = d :=
    deviceAnswer_cons _ s2 d rest (hpoll.answers_of_given (by simp [hanswers2]))
  have hhalf := (hpoll.trans hread).respond .ok (unpack d rbits.toNat) 0 (byteCount rbits.toNat)
  rw [hanswer, hwritten.cfg] at hhalf
  have hflag2 : s2.hid.prepollTimeout = false := (pollReady_keeps_prepollTimeout hpoll2).trans hflagged
  rw [exec_transfer, transferRead_of_ready hguard hpoll2, hanswer]
  exact ⟨_, rfl, hwritten.trans hhalf, by simp [hflag2]⟩

/-- On a bus that is never ready, TRANSFER goes on after the pre-poll and ends at the read poll (R73, R76). -/
theorem transfer_of_silent_bus {vs ws : List Word} (hvs : vs.length = 10) (hws : ws.length = 10)
    (hfail : ∀ v ∈ vs ++ ws, busReady s.cfg.params v = false)
    (hanswers : s.answers = vs ++ ws ++ rest) (cs wbits : Half) (wdata : Word) :
    ∃ t, exec (.transfer cs wbits wdata rbits) s = .next t ∧
      Recorded s t (vs.flatMap (failedTry s.cfg.params.regBusStatus) ++ recoveryEvents s.cfg.params .timeout
        ++ setupEvents s.cfg.params cs wbits rbits ++ dataEvents s.cfg.params wbits wdata
        ++ ws.flatMap (failedTry s.cfg.params.regBusStatus)) ∧
      t.rsp = ⟨rsp0Word .timeout true 0, 0, 0⟩ := by
  obtain ⟨s1, hpoll1, hpre⟩ := pollReady_of_failing (r := .busStatus) hvs
    (fun v hv => hfail v (List.mem_append_left ws hv)) (hanswers.trans (List.append_assoc vs ws rest))
  obtain ⟨hwritten, hflagged⟩ := transferWritten_of_poll hpoll1 hpre hflag cs wbits wdata rbits
  have hanswers2 : (transferWritten cs wbits wdata rbits s).answers = ws ++ rest :=
    hwritten.answers_of_given (by simp [hanswers, readValues_failedTries])
  obtain ⟨s2, hpoll2, hpoll⟩ := pollReady_of_failing (r := .busStatus) hws
    (fun v hv => hfail v (List.mem_append_right vs hv)) hanswers2
  rw [← hwritten.cfg] at hpoll2
  rw [hwritten.cfg] at hpoll
  have hflag2 : s2.hid.prepollTimeout = true := (pollReady_keeps_prepollTimeout hpoll2).trans hflagged
  rw [exec_transfer, transferRead_of_timeout hguard hpoll2]
  exact ⟨_, rfl, hwritten.trans (hpoll.respond .timeout 0 0 0), by simp [hflag2]⟩

end

/-- Settles O22: the last word written to the data register is the packed payload, and unpacking it gives the payload's
first bits. -/
theorem loopbackReturnsThePayload : Obligations.LoopbackReturnsThePayload := by
  intro cs w r1 r2 d rest n s hn hn32 hflag hready1 hready2 hanswers
  have hbits : (BitVec.ofNat 16 n).toNat = n := by
    rw [BitVec.toNat_ofNat]
    omega
  have hguard : 1 ≤ (BitVec.ofNat 16 n).toNat ∧ (BitVec.ofNat 16 n).toNat ≤ 32 := hbits.symm ▸ ⟨hn, hn32⟩
  obtain ⟨t, ht, hall, hrsp⟩ := transfer_of_ready_bus hguard hflag hready1 hready2 hanswers cs (BitVec.ofNat 16 n) w
  rw [hbits] at hrsp
  have hcount : byteCount n < 8 := by
    unfold byteCount
    omega
  refine ⟨t, _, ht, hall.trace, pack w n, ?_, ?_⟩
  · rw [dataEvents_of_writes hguard.2, hbits, ← List.append_assoc]
    exact lastWrite_concat_write ..
  · rintro rfl
    have hanswers' : t.answers = rest := hall.answers_of_given (by simp [hanswers])
    rw [hrsp]
    exact ⟨BitVec.eq_of_toNat_eq (status_of_rsp0Word .ok false hcount _ _),
      prepollTimeout_of_rsp0Word .ok false hcount _ _, count_of_rsp0Word .ok false hcount _ _, unpack_pack w hn32, rfl,
      hanswers', execTransfer_keeps_S ht⟩

/-- Settles O23: both polls read ten failing answers, and each failing answer is followed by a delay. -/
theorem neverReadyBusTimesOut : Obligations.NeverReadyBusTimesOut := by
  intro cs wbits wdata rbits vs ws rest s hlow hhigh hflag hvs hws hfail hanswers
  obtain ⟨t, ht, hall, hrsp⟩ := transfer_of_silent_bus ⟨hlow, hhigh⟩ hflag hvs hws hfail hanswers cs wbits wdata
  refine ⟨t, ht, hrsp, ?_, hall.answers_of_given ?_, execTransfer_keeps_S ht, ?_⟩
  · rw [hall.trace, List.append_assoc (vs.flatMap _)]
    rfl
  · simp [hanswers, readValues_failedTries]
  · rw [hall.trace]
    simp only [leastDelayMs, pollDelayMs, List.count_append, count_delay_failedTries, hvs, hws]
    omega

end Sys2Proof.Proofs
end

section
/-! The frequency counter (spec/42_frequency_counter.md R81 to R86): the rounding of a measured frequency and its range,
the events of MEASURE's poll, and the command as its select write, its poll and its answer. -/

namespace Sys2Proof.Proofs

open Sys2Proof Sys2Proof.Machine Sys2Proof.Laws

/-! ### Rounding (R85) -/

theorem roundHz_eq (raw sm : Nat) : roundHz raw sm = (raw + 5 * sm) / (10 * sm) * (10 * sm) := rfl

/-- Half a step added before the division carries into the quotient just when the remainder is half a step or more. -/
theorem roundHz_of_quotient {sm r : Nat} (k : Nat) (hr : r < 10 * sm) :
    roundHz (k * (10 * sm) + r) sm = (if 2 * r < 10 * sm then k else k + 1) * (10 * sm) := by
  have hsplit : (k * (10 * sm) + r + 5 * sm) / (10 * sm) = k + (r + 5 * sm) / (10 * sm) := by
    rw [Nat.add_assoc, Nat.mul_comm k, Nat.mul_add_div (by omega)]
  rw [roundHz_eq, hsplit]
  split
  · next hbelow => rw [Nat.div_eq_of_lt (by omega), Nat.add_zero]
  · next hfrom => rw [Nat.div_eq_of_lt_le (k := 1) (by omega) (by omega)]

/-- A multiple of the step is its own rounding (R86 (b)). -/
theorem roundHz_of_dvd {n sm : Nat} (hsm : 0 < sm) (h : 10 * sm ∣ n) : roundHz n sm = n := by
  obtain ⟨k, rfl⟩ := h
  have hround := roundHz_of_quotient k (show 0 < 10 * sm by omega)
  rwa [if_pos (by omega), Nat.add_zero, Nat.mul_comm k] at hround

theorem roundHz_mono {a b : Nat} (h : a ≤ b) (sm : Nat) : roundHz a sm ≤ roundHz b sm :=
  Nat.mul_le_mul_right _ (Nat.div_le_div_right (Nat.add_le_add_right h _))

theorem dvd_roundHz (raw sm : Nat) : 10 * sm ∣ roundHz raw sm := Nat.dvd_mul_left ..

/-! ### The range of a measurement (R84, R86) -/

theorem multiplier_bounds (m : SpeedMode) : 0 < m.multiplier ∧ m.multiplier ≤ 4 := by
  cases m <;> decide

theorem rawHz_le (p : Nat) : rawHz p ≤ 1280000000 := Nat.div_le_self ..

/-- The longest period an 18-bit field holds gives the least frequency. -/
theorem le_rawHz_measPeriod (v : Word) : 4882 ≤ rawHz (measPeriod v) :=
  calc 4882 = measNumerator / 262144 := rfl
    _ ≤ rawHz (measPeriod v) := Nat.div_le_div_left (measPeriod_lt v) (Nat.succ_pos _)

/-- Both ends of the range are multiples of the step in every mode, so they bound the rounded value too. -/
theorem roundHz_rawHz_bounds (v : Word) (m : SpeedMode) :
    4880 ≤ roundHz (rawHz (measPeriod v)) m.multiplier ∧
      roundHz (rawHz (measPeriod v)) m.multiplier ≤ 1280000000 := by
  obtain ⟨hpos, -⟩ := multiplier_bounds m
  have hleast : roundHz 4880 m.multiplier = 4880 := roundHz_of_dvd hpos (by cases m <;> decide)
  have hgreatest : roundHz 1280000000 m.multiplier = 1280000000 := roundHz_of_dvd hpos (by cases m <;> decide)
  have hlow := roundHz_mono (le_trans (show 4880 ≤ 4882 by decide) (le_rawHz_measPeriod v)) m.multiplier
  have hhigh := roundHz_mono (rawHz_le (measPeriod v)) m.multiplier
  exact ⟨hleast ▸ hlow, hgreatest ▸ hhigh⟩

theorem toNat_measuredHz (v : Word) (m : SpeedMode) :
    (measuredHz v m.multiplier).toNat = roundHz (rawHz (measPeriod v)) m.multiplier := by
  obtain ⟨-, hhigh⟩ := roundHz_rawHz_bounds v m
  rw [measuredHz, BitVec.toNat_ofNat, Nat.mod_eq_of_lt (by omega)]

/-- Settles O25: the carry of half a step decides between the two neighbouring multiples. -/
theorem roundingIsToTheNearestMultiple : Obligations.RoundingIsToTheNearestMultiple := by
  intro m k r hr
  refine ⟨fun raw => roundHz_eq raw _, roundHz_of_quotient k hr, fun v => ?_⟩
  have hraw := rawHz_le (measPeriod v)
  obtain ⟨-, hmultiplier⟩ := multiplier_bounds m
  omega

/-- Settles O26: the raw value is bounded by the period's width, and the bounds survive the rounding. -/
theorem readyMeasurementIsNeverZero : Obligations.ReadyMeasurementIsNeverZero := by
  intro v m
  rw [toNat_measuredHz]
  obtain ⟨hlow, hhigh⟩ := roundHz_rawHz_bounds v m
  exact ⟨le_rawHz_measPeriod v, rawHz_le _, rfl, Nat.mod_eq_zero_of_dvd (dvd_roundHz ..), hlow, hhigh⟩

/-! ### MEASURE and the control bus (R37, R86 (d)) -/

/-- An access is at the offset of a register that is driven. -/
theorem offset_of_drives {p : Params} {rs ws : List DevReg} {e : Event} {off : Nat} (h : Drives p rs ws e)
    (hoff : accessOffset e = some off) : ∃ r ∈ rs ++ ws, off = p.offset r := by
  cases e with
  | read o v =>
    obtain ⟨r, hr, rfl⟩ := h
    exact ⟨r, List.mem_append_left ws hr, (Option.some.inj hoff).symm⟩
  | write o v =>
    obtain ⟨r, hr, rfl⟩ := h
    exact ⟨r, List.mem_append_right rs hr, (Option.some.inj hoff).symm⟩
  | delay | log => contradiction

/-- R37 keeps both measurement registers off the control bus's offsets. -/
theorem measurement_offset_not_mem_busOffsets (c : Configuration) {r : DevReg} (hr : r ∈ [.meas, .measSelect]) :
    c.params.offset r ∉ c.params.busOffsets := by
  intro hbus
  obtain ⟨-, -, hdisjoint, -⟩ := (wf_iff c.params).mp c.ok
  obtain ⟨hselect, hmeas⟩ := hdisjoint _ hbus
  rcases List.mem_pair.mp hr with rfl | rfl
  · exact hmeas rfl
  · exact hselect rfl

/-- Settles O27: MEASURE drives the two measurement registers only. -/
theorem measureLeavesTheBusAlone : Obligations.MeasureLeavesTheBusAlone := by
  intro idx s
  obtain ⟨t, hexec, hdrove, -⟩ := exec_completes (.measure idx) s
  obtain ⟨es, htrace, hes⟩ := hdrove.events
  refine ⟨t, es, hexec, htrace, fun e he off hoff => ?_⟩
  obtain ⟨r, hr, rfl⟩ := offset_of_drives (hes e he) hoff
  exact measurement_offset_not_mem_busOffsets s.cfg hr

/-! ### The command (R81 to R83) -/

/-- The mask keeps the index modulo 8 (R82). -/
theorem selectWord_eq (idx : Word) : selectWord idx = BitVec.ofNat 32 (idx.toNat % 8) := by
  apply BitVec.eq_of_toNat_eq
  calc (selectWord idx).toNat = idx.toNat &&& (2 ^ 3 - 1) := BitVec.toNat_and ..
    _ = idx.toNat % 8 := Nat.and_two_pow_sub_one_eq_mod ..
    _ = (BitVec.ofNat 32 (idx.toNat % 8)).toNat := by
      rw [BitVec.toNat_ofNat]
      omega

theorem measuredHz_eq (v : Word) (sm : Nat) :
    measuredHz v sm =
      BitVec.ofNat 32 ((1280000000 / (v.toNat % 262144 + 1) + 5 * sm) / (10 * sm) * (10 * sm)) := rfl

theorem length_of_pollEvents_timeout {off T : Nat} {test : Word → Bool} {es : List Event}
    (h : PollEvents off test T es .timeout) : es.length = 2 * T := by
  obtain ⟨fails, -, hfails, rfl⟩ := h
  rw [length_failedTries, hfails]

/-- A poll that is ready at try `k` has recorded a read for each try and a delay for each but the last. -/
theorem length_of_pollEvents_ready {off T : Nat} {test : Word → Bool} {es : List Event} {v : Word}
    (h : PollEvents off test T es (.ready v)) : ∃ k, 1 ≤ k ∧ k ≤ T ∧ es.length = 2 * k - 1 := by
  obtain ⟨fails, -, -, hfails, rfl⟩ := h
  refine ⟨fails.length + 1, by omega, by omega, ?_⟩
  rw [List.length_append, length_failedTries, List.length_singleton]
  omega

/-- R1 of MEASURE's response: the measured frequency, or 0 where the poll gave none (R83). -/
def measureAnswer (m : SpeedMode) : PollResult → Word
  | .ready v => measuredHz v m.multiplier
  | .timeout => 0

theorem exec_measure_of_poll {idx : Word} {s t : State} {res : PollResult}
    (h : pollReady .meas measReady measPollTries (regWrite .measSelect (selectWord idx) s) = (res, t)) :
    exec (.measure idx) s = .next (respond .ok (measureAnswer s.S.speedMode res) 0 0 t) := by
  rw [exec, execMeasure, h]
  cases res <;> rfl

/-- Settles O24: the select write, the poll of REG_MEAS after it, and the response to the poll's result. -/
theorem measureFollowsItsAlgorithm : Obligations.MeasureFollowsItsAlgorithm := by
  intro idx s
  rcases hpoll : pollReady .meas measReady measPollTries (regWrite .measSelect (selectWord idx) s) with ⟨res, u⟩
  obtain ⟨poll, hevents, hpolled⟩ := pollReady_recorded hpoll
  have hflag : u.hid.prepollTimeout = s.hid.prepollTimeout := (pollReady_keeps_prepollTimeout hpoll :)
  have hexec := exec_measure_of_poll hpoll
  have hall := ((Recorded.regWrite (s := s) rfl .measSelect (selectWord idx)).trans hpolled).respond .ok
    (measureAnswer s.S.speedMode res) 0 0
  obtain ⟨t, ht, hdrove, hpublished⟩ := exec_completes (.measure idx) s
  obtain rfl := Host.Outcome.next.inj (hexec.symm.trans ht)
  refine ⟨_, poll, res, hexec, hevents, selectWord_eq idx ▸ hall.trace, ?_, ?_, execMeasure_keeps_S hexec, hflag,
    hall.pendingDco, hdrove.untouched, hpublished, fun _ htrace => (hall.of_trace htrace).answered⟩
  · rintro rfl
    exact ⟨hflag ▸ rfl, length_of_pollEvents_timeout hevents⟩
  · rintro v rfl
    rw [← measuredHz_eq]
    exact ⟨hflag ▸ rfl, length_of_pollEvents_ready hevents⟩

end Sys2Proof.Proofs
end

section
/-! The divider word (spec/43_nco_tuning.md R87 to R90): its two floor divisions as one, the sign of the detune
correction, and where the undetuned word is the quotient itself. -/

namespace Sys2Proof.Proofs

open Sys2Proof Sys2Proof.Machine

/-! ### The detune correction (R88) -/

/-- At detune 0 the correction's term is 0, so skipping the step changes nothing. -/
theorem dcoDetuned_eq (c det : Int) : dcoDetuned c det = c + det * 100 * (c / 138564) := by
  rw [dcoDetuned]
  split
  · rfl
  · next hzero =>
    obtain rfl : det = 0 := not_not.mp hzero
    rw [Int.zero_mul, Int.zero_mul, Int.add_zero]

/-- The term takes away at most 20000 of every 138564. -/
theorem dcoDetuned_pos {c det : Int} (hdet : -200 ≤ det) (hc : 0 < c) : 0 < dcoDetuned c det := by
  have hquotient : 0 ≤ c / 138564 := Int.ediv_nonneg hc.le (by decide)
  have hterm : -20000 * (c / 138564) ≤ det * 100 * (c / 138564) := Int.mul_le_mul_of_nonneg_right (by omega) hquotient
  rw [dcoDetuned_eq]
  omega

/-- Settles O29: the skipped step is the step at 0, and the correction is less than the value. -/
theorem detuneCorrectionKeepsTheSign : Obligations.DetuneCorrectionKeepsTheSign := by
  intro c det _ hlow _
  refine ⟨dcoDetuned_eq c det, dcoDetuned_pos hlow, ?_⟩
  rw [dcoDetuned_eq, Int.zero_ediv, Int.mul_zero, Int.add_zero]

/-! ### One division for two (R87) -/

theorem dcoWord_eq_div (f m sm : Nat) (det : Int) :
    dcoWord f m sm det = BitVec.ofInt 32 (dcoDetuned (dcoCombined f m sm) det / 80000000000) :=
  congrArg (BitVec.ofInt 32) (Int.ediv_ediv_of_nonneg (by decide))

/-- Without detune the shift and the divisor, 80000000000 = 9765625 · 2^13, have 2^13 in common. -/
theorem dcoWord_undetuned (f m sm : Nat) :
    dcoWord f m sm 0 = BitVec.ofNat 32 ((1000 * f + m) * sm * 2 ^ 23 / 9765625) := by
  have hcommon : (f * 1000 + m) * sm * 2 ^ 36 / 80000000000 = (1000 * f + m) * sm * 2 ^ 23 / 9765625 := by
    rw [Nat.mul_comm f]
    omega
  rw [dcoWord_eq_div, dcoDetuned_eq, Int.zero_mul, Int.zero_mul, Int.add_zero, ← hcommon, ← BitVec.ofInt_natCast]
  rfl

/-- Settles O28: the shift's common factor with the divisor cancels, and two floor divisions are one by the product. -/
theorem dividerWordClosedForm : Obligations.DividerWordClosedForm := by
  intro f m sm det _ _
  refine ⟨dcoWord_undetuned f m _, _, rfl, ?_⟩
  rw [dcoWord_eq_div, dcoDetuned_eq]
  rfl

/-! ### The undetuned word and its quotient (R89, R90) -/

/-- 5000000000 · 2^23 = 2^32 · 9765625. -/
theorem undetunedQuotient_lt_iff (n : Nat) : n * 2 ^ 23 / 9765625 < 2 ^ 32 ↔ n < 5000000000 := by omega

theorem toNat_dcoWord (f m sm : Nat) :
    (dcoWord f m sm 0).toNat = (1000 * f + m) * sm * 2 ^ 23 / 9765625 % 2 ^ 32 := by
  rw [dcoWord_undetuned, BitVec.toNat_ofNat]

/-- A number modulo 2^32 is the number itself just below 2^32. -/
theorem toNat_dcoWord_eq_iff (f m sm : Nat) :
    (dcoWord f m sm 0).toNat = (1000 * f + m) * sm * 2 ^ 23 / 9765625 ↔ (1000 * f + m) * sm < 5000000000 := by
  rw [toNat_dcoWord, Nat.mod_eq_iff_lt (by decide), undetunedQuotient_lt_iff]

/-- Settles O30: the word is cut to 32 bits, and the cut is exact just below the bound. -/
theorem dividerWordFitsBelowTheBound : Obligations.DividerWordFitsBelowTheBound :=
  fun f m sm => ⟨toNat_dcoWord f m sm.multiplier, toNat_dcoWord_eq_iff f m sm.multiplier⟩

/-- A step of 1000 in the dividend is more than the divisor after the shift: 1000 · 2^23 > 9765625. -/
theorem undetunedQuotient_lt {a b : Nat} (h : a + 1000 ≤ b) : a * 2 ^ 23 / 9765625 < b * 2 ^ 23 / 9765625 := by omega

/-- Settles O31: one hertz more is a greater quotient, and below the bound the words are the quotients. -/
theorem dividerWordIsMonotone : Obligations.DividerWordIsMonotone := by
  intro f1 f2 sm hf hbound
  obtain ⟨hpos, -⟩ := multiplier_bounds sm
  have hstep : 1000 * f1 * sm.multiplier + 1000 ≤ 1000 * f2 * sm.multiplier :=
    calc 1000 * f1 * sm.multiplier + 1000
        ≤ 1000 * f1 * sm.multiplier + 1000 * sm.multiplier := Nat.add_le_add_left (Nat.le_mul_of_pos_right _ hpos) _
      _ = 1000 * (f1 + 1) * sm.multiplier := by ring
      _ ≤ 1000 * f2 * sm.multiplier := Nat.mul_le_mul_right _ (Nat.mul_le_mul_left _ hf)
  have hword (f : Nat) (hbelow : 1000 * f * sm.multiplier < 5000000000) :
      (dcoWord f 0 sm.multiplier 0).toNat = 1000 * f * sm.multiplier * 2 ^ 23 / 9765625 :=
    (toNat_dcoWord_eq_iff f 0 _).mpr hbelow
  rw [hword f1 (by omega), hword f2 hbound]
  exact undetunedQuotient_lt hstep

end Sys2Proof.Proofs
end

section
/-! The tuning commands (spec/43_nco_tuning.md R92 to R99; 44_speed_mode.md R107): each command's meaning as its
response after the writes it makes, and what a command that reads no register leaves. -/

namespace Sys2Proof.Proofs

open Sys2Proof Sys2Proof.Machine Sys2Proof.Laws

/-! ### What every command leaves -/

theorem exec_frame {i : Instr} {s t : State} (h : exec i s = .next t) : Untouched s t ∧ Published t := by
  obtain ⟨u, hexec, hdrove, hpublished⟩ := exec_completes i s
  obtain rfl := Host.Outcome.next.inj (h.symm.trans hexec)
  exact ⟨hdrove.untouched, hpublished⟩

/-! ### Parts of a command that read nothing (R20) -/

section
variable {s t : State}

theorem noReads_refl (s : State) : NoReads s s := ⟨rfl, rfl, rfl, rfl, rfl⟩

theorem noReads_respond (h : NoReads s t) (e : Status) (r1 r2 : Word) (n : Nat) :
    NoReads s (respond e r1 r2 n t) := { h with }

theorem noReads_regWrite (h : NoReads s t) (r : DevReg) (v : Word) : NoReads s (regWrite r v t) := { h with }

theorem noReads_programDco (h : NoReads s t) (f m : Word) : NoReads s (programDco f m t) := { h with }

theorem noReads_commitDetune (h : NoReads s t) (d : Half) : NoReads s (t.commitDetune d) := { h with }

theorem noReads_commitClockSource (h : NoReads s t) (c : Byte) : NoReads s (t.commitClockSource c) := { h with }

end

/-- Answering leaves all but the response and the handshake (R61). -/
theorem respond_frame (e : Status) (r1 r2 : Word) (n : Nat) (s : State) :
    (respond e r1 r2 n s).trace = s.trace ∧ (respond e r1 r2 n s).S = s.S ∧
      (respond e r1 r2 n s).hid.pendingDco = s.hid.pendingDco ∧ Untouched s (respond e r1 r2 n s) ∧
      NoReads s (respond e r1 r2 n s) ∧ Published (respond e r1 r2 n s) :=
  ⟨rfl, rfl, rfl, (Drove.respond (rs := []) (ws := []) e r1 r2 n s).untouched,
    noReads_respond (noReads_refl s) e r1 r2 n, published_respond e r1 r2 n s⟩

/-- A refusal is its response and nothing else (R110). -/
theorem refused_raise (e : Status) (s : State) : Refused e s (raise e s) := by
  obtain ⟨htrace, hS, hpending, huntouched, hnoReads, hpublished⟩ := respond_frame e 0 0 0 s
  exact ⟨rfl, htrace, hS, hpending, huntouched, hnoReads, hpublished⟩

/-! ### SET_DCO (R93) -/

theorem millisLegal_iff (m : Word) : millisLegal m = true ↔ m.toNat ≤ 999 := decide_eq_true_iff

theorem exec_setDco_of_legal {m : Word} (h : millisLegal m = true) (f : Word) (s : State) :
    exec (.setDco f m) s = .next (respond .ok (dcoWordOf s.S f m) 0 0 (programDco f m s)) :=
  congrArg Host.Outcome.next (if_pos h)

theorem exec_setDco_of_illegal {m : Word} (h : ¬ millisLegal m = true) (f : Word) (s : State) :
    exec (.setDco f m) s = .next (raise .invalidArgument s) := congrArg Host.Outcome.next (if_neg h)

/-- Settles O32: within 999 millihertz the command is ProgramDCO and its response, above it is refused. -/
theorem setDcoProgramsTheDivider : Obligations.SetDcoProgramsTheDivider := by
  intro f m s
  rw [← Nat.not_le, ← millisLegal_iff]
  constructor
  · intro hm
    have hexec := exec_setDco_of_legal hm f s
    obtain ⟨huntouched, hpublished⟩ := exec_frame hexec
    exact ⟨_, _, hexec, rfl, rfl, rfl, rfl, rfl, huntouched,
      noReads_respond (noReads_programDco (noReads_refl s) f m) .., hpublished⟩
  · intro hm
    exact ⟨_, exec_setDco_of_illegal hm f s, refused_raise .invalidArgument s⟩

/-! ### SET_DETUNE (R94) -/

/-- ProgramDCO runs on the state that has stored the detune. -/
theorem exec_setDetune_of_legal {d : Int} (h : detuneLegal d = true) (s : State) :
    exec (.setDetune d) s = .next (respond .ok
      (dcoWordOf { s.S with detune := BitVec.ofInt 16 d } s.S.dco s.S.dcoMillis) 0 0
      (programDco s.S.dco s.S.dcoMillis (s.commitDetune (BitVec.ofInt 16 d)))) :=
  congrArg Host.Outcome.next (if_pos h)

theorem exec_setDetune_of_illegal {d : Int} (h : ¬ detuneLegal d = true) (s : State) :
    exec (.setDetune d) s = .next (raise .invalidArgument s) := congrArg Host.Outcome.next (if_neg h)

/-- A legal detune stored is the detune given, in the divider word too (R12). -/
theorem dcoWordOf_detune {d : Int} (h : detuneLegal d = true) (S : Stored) (f m : Word) :
    dcoWordOf { S with detune := BitVec.ofInt 16 d } f m =
      dcoWord f.toNat m.toNat S.speedMode.multiplier d := by
  rw [dcoWordOf, toInt_ofInt_of_detuneLegal h]

/-- Settles O33: a legal detune is stored, then ProgramDCO runs under it; any other is refused. -/
theorem setDetuneReprogramsTheDivider : Obligations.SetDetuneReprogramsTheDivider := by
  intro d s
  constructor
  · intro hlow hhigh
    have hlegal := (detuneLegal_iff d).mpr ⟨hlow, hhigh⟩
    have hexec := exec_setDetune_of_legal hlegal s
    obtain ⟨huntouched, hpublished⟩ := exec_frame hexec
    exact ⟨_, _, hexec, dcoWordOf_detune hlegal .., rfl, toInt_ofInt_of_detuneLegal hlegal, rfl, rfl, rfl, huntouched,
      noReads_respond (noReads_programDco (noReads_commitDetune (noReads_refl s) _) ..) .., hpublished⟩
  · intro hout
    have hillegal : ¬ detuneLegal d = true := by
      rw [detuneLegal_iff]
      omega
    exact ⟨_, exec_setDetune_of_illegal hillegal s, refused_raise .invalidArgument s⟩

/-! ### SET_CLOCK_SOURCE (R95) -/

theorem zext8_eq (c : Byte) : zext8 c = BitVec.ofNat 32 c.toNat := (BitVec.ofNat_toNat 32 c).symm

theorem exec_setClockSource (c : Byte) (s : State) :
    exec (.setClockSource c) s = .next (respond .ok (BitVec.ofNat 32 c.toNat) 0 0
      ((regWrite .clockSource (BitVec.ofNat 32 c.toNat) s).commitClockSource c)) := by
  rw [← zext8_eq]
  rfl

/-- Settles O34: one write, then the code stored, for every code. -/
theorem setClockSourceStoresAnyCode : Obligations.SetClockSourceStoresAnyCode := by
  intro c s
  have hexec := exec_setClockSource c s
  obtain ⟨huntouched, hpublished⟩ := exec_frame hexec
  exact ⟨_, hexec, rfl, rfl, rfl, rfl, huntouched,
    noReads_respond (noReads_commitClockSource (noReads_regWrite (noReads_refl s) ..) c) .., hpublished⟩

/-! ### The getters (R96, R97, R107) -/

theorem toInt_detuneWord (d : Half) : (detuneWord d).toInt = d.toInt := BitVec.toInt_signExtend_of_le (by decide)

theorem toNat_modeWord (m : SpeedMode) : (modeWord m).toNat = m.multiplier := by
  cases m <;> rfl

/-- Settles O35: the words that show the fields are the words the getters answer. -/
theorem gettersAnswerTheStoredFields : Obligations.GettersAnswerTheStoredFields := by
  intro i s r1 r2 h
  have hexec : exec i s = .next (respond .ok r1 r2 0 s) := by
    obtain ⟨rfl, rfl, rfl⟩ | ⟨rfl, hdetune, rfl⟩ | ⟨rfl, hmode, rfl⟩ := h
    · rfl
    · obtain rfl := BitVec.eq_of_toInt_eq (hdetune.trans (toInt_detuneWord s.S.detune).symm)
      rfl
    · obtain rfl := BitVec.eq_of_toNat_eq (hmode.trans (toNat_modeWord s.S.speedMode).symm)
      rfl
  exact ⟨_, hexec, rfl, respond_frame ..⟩

/-! ### GET_CLOCK_SOURCE (R98, R99) -/

section
variable {code : Byte} {l : List (Byte × ClockSource)}

/-- The look-up takes the first entry of a code, which is the only one where no code stands twice (R4). -/
theorem lookupSource_of_mem {src : ClockSource} (hnodup : (l.map Prod.fst).Nodup) (hmem : (code, src) ∈ l) :
    lookupSource code l = some src := by
  induction l with
  | nil => contradiction
  | cons entry rest ih =>
    obtain ⟨hfresh, hrest⟩ := List.nodup_cons.mp hnodup
    rw [lookupSource]
    rcases List.mem_cons.mp hmem with rfl | htail
    · exact if_pos rfl
    · have hother : entry.1 ≠ code := fun heq => hfresh (heq ▸ List.mem_map_of_mem (f := Prod.fst) htail)
      rw [if_neg hother]
      exact ih hrest htail

theorem lookupSource_of_not_mem (h : ∀ src, (code, src) ∉ l) : lookupSource code l = none := by
  induction l with
  | nil => rfl
  | cons entry rest ih =>
    have hother : entry.1 ≠ code := by
      rintro rfl
      exact h entry.2 List.mem_cons_self
    rw [lookupSource, if_neg hother]
    exact ih fun src hsrc => h src (List.mem_cons_of_mem _ hsrc)

end

theorem exec_getClockSource_of_some {s : State} {src : ClockSource}
    (h : clockSourceMap s.cfg.params s.S.clockSource = some src) :
    exec .getClockSource s =
      .next (respond .ok (BitVec.ofNat 32 (normalizedCode src)) (BitVec.ofNat 32 s.S.clockSource.toNat) 0 s) := by
  rw [exec, execGetClockSource, answerClockSource, h, ← zext8_eq]

theorem exec_getClockSource_of_none {s : State} (h : clockSourceMap s.cfg.params s.S.clockSource = none) :
    exec .getClockSource s = .next (raise .invalidState s) := by
  rw [exec, execGetClockSource, answerClockSource, h]

/-- Settles O36: membership in a well-formed map decides the look-up. -/
theorem getClockSourceNormalizes : Obligations.GetClockSourceNormalizes := by
  intro s
  constructor
  · intro src hmem
    obtain ⟨-, -, -, -, -, hnodup, -⟩ := (wf_iff s.cfg.params).mp s.cfg.ok
    refine ⟨_, exec_getClockSource_of_some (lookupSource_of_mem hnodup hmem), rfl, ?_, rfl, respond_frame ..⟩
    cases src <;> rfl
  · intro hout
    exact ⟨_, exec_getClockSource_of_none (lookupSource_of_not_mem hout), refused_raise .invalidState s⟩

end Sys2Proof.Proofs
end

section
/-! The speed mode and the rate (spec/44_speed_mode.md R100 to R108): the rate map and the speed codes by their ranges,
SpeedTransition as its three writes, and the two commands as a response after them. -/

namespace Sys2Proof.Proofs

open Sys2Proof Sys2Proof.Machine Sys2Proof.Laws

/-! ### The rate map (R105) -/

section
variable {p : Params} {rate : Word}

theorem rateMode_of_lt (h : rate.toNat < p.rateBreakNormal) : rateMode p rate = .slow := if_pos h

theorem rateMode_of_between (hlow : p.rateBreakNormal ≤ rate.toNat) (hhigh : rate.toNat < p.rateBreakFast) :
    rateMode p rate = .normal := (if_neg (Nat.not_lt.mpr hlow)).trans (if_pos hhigh)

theorem rateMode_of_le (hlow : p.rateBreakNormal ≤ rate.toNat) (hhigh : p.rateBreakFast ≤ rate.toNat) :
    rateMode p rate = .fast := (if_neg (Nat.not_lt.mpr hlow)).trans (if_neg (Nat.not_lt.mpr hhigh))

end

/-- Where the breakpoints are in order (R4), each mode holds on its own range only. -/
theorem multiplier_rateMode_iff {p : Params} (hbreaks : p.rateBreakNormal < p.rateBreakFast) (rate : Word) :
    ((rateMode p rate).multiplier = 1 ↔ rate.toNat < p.rateBreakNormal) ∧
    ((rateMode p rate).multiplier = 2 ↔ p.rateBreakNormal ≤ rate.toNat ∧ rate.toNat < p.rateBreakFast) ∧
    ((rateMode p rate).multiplier = 4 ↔ p.rateBreakFast ≤ rate.toNat) := by
  rcases Nat.lt_or_ge rate.toNat p.rateBreakNormal with hslow | hlow
  · rw [rateMode_of_lt hslow, SpeedMode.multiplier]
    omega
  rcases Nat.lt_or_ge rate.toNat p.rateBreakFast with hnormal | hfast
  · rw [rateMode_of_between hlow hnormal, SpeedMode.multiplier]
    omega
  · rw [rateMode_of_le hlow hfast, SpeedMode.multiplier]
    omega

/-- Settles O38: a well-formed configuration's breakpoints are in order, and rate 0 is below any that is not 0. -/
theorem rateMapFollowsTheBreakpoints : Obligations.RateMapFollowsTheBreakpoints := by
  intro c rate
  obtain ⟨-, -, -, -, hbreaks, -⟩ := (wf_iff c.params).mp c.ok
  obtain ⟨hslow, hnormal, hfast⟩ := multiplier_rateMode_iff hbreaks rate
  exact ⟨hslow, hnormal, hfast, fun hpos => rateMode_of_lt hpos⟩

/-! ### Speed codes, mode-register values and the maximum (R10, R101, R103) -/

theorem modeOfCode_of_toNat {c : Byte} {m : SpeedMode} (h : c.toNat = m.multiplier) : modeOfCode c = some m := by
  obtain rfl : c = BitVec.ofNat 8 m.multiplier := by rw [← h, BitVec.ofNat_toNat, BitVec.setWidth_eq]
  cases m <;> rfl

theorem modeOfCode_eq_none {c : Byte} (h1 : c ≠ 1) (h2 : c ≠ 2) (h4 : c ≠ 4) : modeOfCode c = none := by
  rw [modeOfCode, if_neg h1, if_neg h2, if_neg h4]

theorem exists_mode_of_code {c : Byte} (h : c = 1 ∨ c = 2 ∨ c = 4) : ∃ m : SpeedMode, c.toNat = m.multiplier := by
  rcases h with rfl | rfl | rfl
  · exact ⟨.slow, rfl⟩
  · exact ⟨.normal, rfl⟩
  · exact ⟨.fast, rfl⟩

theorem modeReg_eq (m : SpeedMode) : modeReg m = if m = .normal then 1 else 0 := by
  cases m <;> rfl

theorem exceeds_iff (m max : SpeedMode) : m.exceeds max = true ↔ max.multiplier < m.multiplier := decide_eq_true_iff

theorem not_exceeds_iff (m max : SpeedMode) : ¬ m.exceeds max = true ↔ m.multiplier ≤ max.multiplier := by
  rw [exceeds_iff, Nat.not_lt]

/-! ### SpeedTransition (R102) -/

theorem speedTransition_S (m : SpeedMode) (s : State) : (speedTransition m s).S = { s.S with speedMode := m } := rfl

/-- The word is of the frequency and the detune found, under the new mode. -/
theorem speedTransition_pendingDco (m : SpeedMode) (s : State) :
    (speedTransition m s).hid.pendingDco =
      dcoWord s.S.dco.toNat s.S.dcoMillis.toNat m.multiplier s.S.detune.toInt := rfl

/-- Three writes: clock-select, mode register, divider word. -/
theorem speedTransition_trace (m : SpeedMode) (s : State) :
    (speedTransition m s).trace = s.trace ++ [.write s.cfg.params.regSpeedClksel s.cfg.params.clkselValue,
      .write s.cfg.params.regSpeedMode (if m = .normal then 1 else 0),
      .write s.cfg.params.regDco (dcoWord s.S.dco.toNat s.S.dcoMillis.toNat m.multiplier s.S.detune.toInt)] := by
  rw [← modeReg_eq, ← speedTransition_pendingDco]
  simp [speedTransition]

theorem noReads_speedTransition {s t : State} (h : NoReads s t) (m : SpeedMode) : NoReads s (speedTransition m t) :=
  { h with }

/-! ### SET_SPEED_MODE (R103, R104) -/

section
variable {c : Byte} {m : SpeedMode} {s : State}

theorem exec_setSpeedMode_of_le (hc : c.toNat = m.multiplier)
    (hmax : m.multiplier ≤ s.cfg.params.maxSpeedMode.multiplier) :
    exec (.setSpeedMode c) s = .next (respond .ok (speedTransition m s).hid.pendingDco
      (BitVec.ofNat 32 m.multiplier) 0 (speedTransition m s)) := by
  rw [exec, execSetSpeedMode, modeOfCode_of_toNat hc, ← hc, ← zext8_eq]
  exact congrArg Host.Outcome.next (if_neg ((not_exceeds_iff ..).mpr hmax))

theorem exec_setSpeedMode_of_lt (hc : c.toNat = m.multiplier)
    (hmax : s.cfg.params.maxSpeedMode.multiplier < m.multiplier) :
    exec (.setSpeedMode c) s = .next (raise .noop s) := by
  rw [exec, execSetSpeedMode, modeOfCode_of_toNat hc]
  exact congrArg Host.Outcome.next (if_pos ((exceeds_iff ..).mpr hmax))

theorem exec_setSpeedMode_of_illegal (h : modeOfCode c = none) :
    exec (.setSpeedMode c) s = .next (raise .invalidArgument s) := by
  rw [exec, execSetSpeedMode, h]

end

/-- Settles O37: a legal code within the maximum is SpeedTransition and its response, any other is refused. -/
theorem setSpeedModeReprogramsTheDivider : Obligations.SetSpeedModeReprogramsTheDivider := by
  intro c s
  refine ⟨fun m hc hmax => ?_, fun h1 h2 h4 => ?_, fun hc hmax => ?_⟩
  · have hexec := exec_setSpeedMode_of_le hc hmax
    obtain ⟨huntouched, hpublished⟩ := exec_frame hexec
    exact ⟨_, _, hexec, rfl, speedTransition_trace m s, speedTransition_S m s, rfl, rfl, huntouched,
      noReads_respond (noReads_speedTransition (noReads_refl s) m) .., hpublished⟩
  · exact ⟨_, exec_setSpeedMode_of_illegal (modeOfCode_eq_none h1 h2 h4), refused_raise .invalidArgument s⟩
  · obtain ⟨m, hm⟩ := exists_mode_of_code hc
    exact ⟨_, exec_setSpeedMode_of_lt hm (hm ▸ hmax), refused_raise .noop s⟩

/-! ### CONFIGURE_RATE (R106) -/

/-- An accepted CONFIGURE_RATE before its response: the speed transition under the old detune, the detune reset, the
rate programmed. -/
def rateTransition (rate : Word) (m : SpeedMode) (s : State) : State :=
  programDco rate 0 ((speedTransition m s).commitDetune 0)

section
variable (rate : Word) (m : SpeedMode) (s : State)

theorem rateTransition_S :
    (rateTransition rate m s).S =
      { speedMode := m, dco := rate, dcoMillis := 0, detune := 0, clockSource := s.S.clockSource } := rfl

theorem rateTransition_pendingDco :
    (rateTransition rate m s).hid.pendingDco = dcoWord rate.toNat 0 m.multiplier 0 := rfl

theorem rateTransition_trace :
    (rateTransition rate m s).trace = s.trace ++ [.write s.cfg.params.regSpeedClksel s.cfg.params.clkselValue,
      .write s.cfg.params.regSpeedMode (if m = .normal then 1 else 0),
      .write s.cfg.params.regDco (dcoWord s.S.dco.toNat s.S.dcoMillis.toNat m.multiplier s.S.detune.toInt),
      .write s.cfg.params.regDco (dcoWord rate.toNat 0 m.multiplier 0)] := by
  calc (rateTransition rate m s).trace
      = (speedTransition m s).trace ++ [.write s.cfg.params.regDco (dcoWord rate.toNat 0 m.multiplier 0)] := rfl
    _ = _ := by
      rw [speedTransition_trace, List.append_assoc]
      rfl

theorem noReads_rateTransition : NoReads s (rateTransition rate m s) :=
  noReads_programDco (noReads_commitDetune (noReads_speedTransition (noReads_refl s) m) 0) rate 0

end

section
variable {rate : Word} {m : SpeedMode} {s : State}

theorem exec_configureRate_of_le (hm : rateMode s.cfg.params rate = m)
    (hmax : m.multiplier ≤ s.cfg.params.maxSpeedMode.multiplier) :
    exec (.configureRate rate) s = .next (respond .ok (dcoWord rate.toNat 0 m.multiplier 0)
      (BitVec.ofNat 32 m.multiplier) 0 (rateTransition rate m s)) := by
  rw [exec, execConfigureRate, hm, ← rateTransition_pendingDco rate m s]
  exact congrArg Host.Outcome.next (if_neg ((not_exceeds_iff ..).mpr hmax))

theorem exec_configureRate_of_lt (hm : rateMode s.cfg.params rate = m)
    (hmax : s.cfg.params.maxSpeedMode.multiplier < m.multiplier) :
    exec (.configureRate rate) s = .next (raise .rateTooHigh s) := by
  rw [exec, execConfigureRate, hm]
  exact congrArg Host.Outcome.next (if_pos ((exceeds_iff ..).mpr hmax))

end

/-- Settles O39: a rate whose mode is within the maximum is both transitions and the response, any other is refused.
The fields are read off by the frame lemmas: at detune 0 the kernel would compute the divider word's shift in unary. -/
theorem configureRateReprogramsTwice : Obligations.ConfigureRateReprogramsTwice := by
  intro rate m s hm
  constructor
  · intro hmax
    have hexec := exec_configureRate_of_le hm hmax
    obtain ⟨huntouched, hpublished⟩ := exec_frame hexec
    have hnoReads := noReads_rateTransition rate m s
    obtain ⟨htrace, hS, hpending, -⟩ :=
      respond_frame .ok (dcoWord rate.toNat 0 m.multiplier 0) (BitVec.ofNat 32 m.multiplier) 0 (rateTransition rate m s)
    exact ⟨_, _, _, hexec, rfl, rfl, htrace.trans (rateTransition_trace rate m s),
      hS.trans (rateTransition_S rate m s), by rw [respond_rsp, hnoReads.prepollTimeout],
      hpending.trans (rateTransition_pendingDco rate m s), huntouched, noReads_respond hnoReads .., hpublished⟩
  · intro hmax
    exact ⟨_, exec_configureRate_of_lt hm hmax, refused_raise .rateTooHigh s⟩

/-! ### The end-to-end scenario (R108) -/

/-- The printed word of 48000 Hz under Normal. -/
theorem dcoWord_48000_normal : dcoWord 48000 0 2 0 = 0x04EA4A8C := by
  rw [dcoWord_undetuned]
  rfl

/-- The printed word of 96000 Hz under Normal. -/
theorem dcoWord_96000_normal : dcoWord 96000 0 2 0 = 0x09D49518 := by
  rw [dcoWord_undetuned]
  rfl

/-- Settles O40: 96000 maps to Normal, and the accepted command's two divider words are the printed ones. -/
theorem endToEndScenario : Obligations.EndToEndScenario := by
  intro s _ hdco hmillis hdetune _ hmax hlow hhigh hflag
  have hmode : rateMode s.cfg.params 96000 = .normal := rateMode_of_between hlow hhigh
  obtain ⟨haccepted, -⟩ := configureRateReprogramsTwice 96000 .normal s hmode
  obtain ⟨t, w1, w, hexec, hw1, hw, htrace, hS, hrsp, -⟩ := haccepted hmax
  rw [hdco, hmillis, hdetune] at hw1
  obtain rfl : w1 = 0x04EA4A8C := hw1.trans dcoWord_48000_normal
  obtain rfl : w = 0x09D49518 := hw.trans dcoWord_96000_normal
  rw [hflag] at hrsp
  exact ⟨t, hexec, htrace, hS, hrsp⟩

end Sys2Proof.Proofs
end

section
/-! Errors and the idle engine (spec/60_exceptions.md R109 to R125): the three ways a command can end, the cause of each
status, the answer to a reserved packet, and the wait for a command. -/

namespace Sys2Proof.Proofs

open Sys2Proof Sys2Proof.Machine Sys2Proof.Laws

/-! ### The fields of a published response (R59, R61) -/

section
variable (e : Status) {n : Nat} (h : n < 8) (r1 r2 : Word) (s : State)
include h

theorem status_respond : (respond e r1 r2 n s).rsp.status = BitVec.ofNat 4 e.code := by
  have hstatus : (respond e r1 r2 n s).rsp.status.toNat = e.code := status_of_rsp0Word e _ h r1 r2
  rw [← hstatus, BitVec.ofNat_toNat, BitVec.setWidth_eq]

theorem prepollTimeout_respond :
    (respond e r1 r2 n s).rsp.prepollTimeout = (respond e r1 r2 n s).hid.prepollTimeout :=
  prepollTimeout_of_rsp0Word e _ h r1 r2

/-- A response shows the status it was given and no other (R60). -/
theorem status_respond_iff (e' : Status) : (respond e r1 r2 n s).rsp.status = BitVec.ofNat 4 e'.code ↔ e = e' := by
  rw [status_respond e h]
  cases e <;> cases e' <;> decide

end

/-- R1, R2 and COUNT of a raise are 0 (R110). -/
theorem raise_words (e : Status) (s : State) :
    (raise e s).rsp.rsp1 = 0 ∧ (raise e s).rsp.rsp2 = 0 ∧ (raise e s).rsp.count = 0 :=
  ⟨rfl, rfl, BitVec.eq_of_toNat_eq (count_of_rsp0Word e _ (by omega) 0 0)⟩

/-! ### The causes (R111) -/

/-- A TRANSFER with a read phase (R76). -/
def ReadingTransfer (i : Instr) : Prop :=
  ∃ cs wbits wdata rbits, i = .transfer cs wbits wdata rbits ∧ 1 ≤ rbits.toNat ∧ rbits.toNat ≤ 32

/-- When a command is refused with a status before any micro-operation. -/
def RefusalCause (i : Instr) (s : State) : Status → Prop
  | .noop => ∃ c, i = .setSpeedMode c ∧ (c = 1 ∨ c = 2 ∨ c = 4) ∧ s.cfg.params.maxSpeedMode.multiplier < c.toNat
  | .rateTooHigh => ∃ r, i = .configureRate r ∧
      s.cfg.params.maxSpeedMode.multiplier < (rateMode s.cfg.params r).multiplier
  | .invalidState => i = .getClockSource ∧ ∀ src, (s.S.clockSource, src) ∉ s.cfg.params.clockSourceMap
  | .invalidArgument => (∃ f m, i = .setDco f m ∧ 999 < m.toNat) ∨
      (∃ d, i = .setDetune d ∧ (d < -200 ∨ 200 < d)) ∨
      (∃ c, i = .setSpeedMode c ∧ c ≠ 1 ∧ c ≠ 2 ∧ c ≠ 4)
  | .ok | .timeout | .illegalCommand => False

/-- A cause is enough for its refusal (R93, R94, R98, R103, R106). -/
theorem exec_of_refusalCause {i : Instr} {s : State} {e : Status} (h : RefusalCause i s e) :
    exec i s = .next (raise e s) := by
  cases e with
  | ok | timeout | illegalCommand => exact h.elim
  | noop =>
    obtain ⟨c, rfl, hc, hmax⟩ := h
    obtain ⟨m, hm⟩ := exists_mode_of_code hc
    exact exec_setSpeedMode_of_lt hm (hm ▸ hmax)
  | rateTooHigh =>
    obtain ⟨r, rfl, hmax⟩ := h
    exact exec_configureRate_of_lt rfl hmax
  | invalidState =>
    obtain ⟨rfl, hout⟩ := h
    exact exec_getClockSource_of_none (lookupSource_of_not_mem hout)
  | invalidArgument =>
    obtain ⟨f, m, rfl, hm⟩ | ⟨d, rfl, hd⟩ | ⟨c, rfl, h1, h2, h4⟩ := h
    · exact exec_setDco_of_illegal (by rw [millisLegal_iff]; omega) f s
    · exact exec_setDetune_of_illegal (by rw [detuneLegal_iff]; omega) s
    · exact exec_setSpeedMode_of_illegal (modeOfCode_eq_none h1 h2 h4)

/-! ### How a command ends -/

/-- The three ways a command can end: OK, the timeout of a read phase, or a refusal that leaves the state it found. -/
inductive Ending (i : Instr) (s : State) : State → Prop
  | ok (r1 r2 : Word) {n : Nat} (hn : n < 8) (u : State) : Ending i s (respond .ok r1 r2 n u)
  | timeout (h : ReadingTransfer i) (u : State) : Ending i s (raise .timeout u)
  | refused {e : Status} (h : RefusalCause i s e) : Ending i s (raise e s)

/-- A command that answers OK, without data bytes, ends. -/
theorem ends_ok {i : Instr} {s u : State} {r1 r2 : Word} (h : exec i s = .next (respond .ok r1 r2 0 u)) :
    ∃ t, exec i s = .next t ∧ Ending i s t := ⟨_, h, .ok r1 r2 (by omega) u⟩

theorem ends_refused {i : Instr} {s : State} {e : Status} (h : RefusalCause i s e) :
    ∃ t, exec i s = .next t ∧ Ending i s t := ⟨_, exec_of_refusalCause h, .refused h⟩

/-- Of TRANSFER's two polls only the read poll can end it (R73, R76). -/
theorem ends_transfer (cs wbits : Half) (wdata : Word) (rbits : Half) (s : State) :
    ∃ t, exec (.transfer cs wbits wdata rbits) s = .next t ∧ Ending (.transfer cs wbits wdata rbits) s t := by
  let w := transferWritten cs wbits wdata rbits s
  rw [exec_transfer]
  by_cases h : 1 ≤ rbits.toNat ∧ rbits.toNat ≤ 32
  · rcases hpoll : pollReady .busStatus (busReady w.cfg.params) busPollTries w with ⟨res, u⟩
    cases res with
    | timeout =>
      rw [transferRead_of_timeout h hpoll]
      exact ⟨_, rfl, .timeout ⟨cs, wbits, wdata, rbits, rfl, h⟩ u⟩
    | ready v =>
      have hcount : byteCount rbits.toNat < 8 := by
        unfold byteCount
        omega
      rw [transferRead_of_ready h hpoll]
      exact ⟨_, rfl, .ok _ 0 hcount _⟩
  · rw [transferRead_of_no_read h]
    exact ⟨_, rfl, .ok 0 0 (by omega) w⟩

/-- The operand checks of each command (R114) decide between OK and a refusal. -/
theorem exec_ends (i : Instr) (s : State) : ∃ t, exec i s = .next t ∧ Ending i s t := by
  cases i with
  | transfer cs wbits wdata rbits => exact ends_transfer cs wbits wdata rbits s
  | measure idx => exact ends_ok (exec_measure_of_poll rfl)
  | setDco f m =>
    by_cases hm : m.toNat ≤ 999
    · exact ends_ok (exec_setDco_of_legal ((millisLegal_iff m).mpr hm) f s)
    · exact ends_refused (e := .invalidArgument) (.inl ⟨f, m, rfl, by omega⟩)
  | setDetune d =>
    by_cases hd : -200 ≤ d ∧ d ≤ 200
    · exact ends_ok (exec_setDetune_of_legal ((detuneLegal_iff d).mpr hd) s)
    · exact ends_refused (e := .invalidArgument) (.inr (.inl ⟨d, rfl, by omega⟩))
  | setClockSource c => exact ends_ok (exec_setClockSource c s)
  | setSpeedMode c =>
    by_cases hc : c = 1 ∨ c = 2 ∨ c = 4
    · obtain ⟨m, hm⟩ := exists_mode_of_code hc
      rcases Nat.lt_or_ge s.cfg.params.maxSpeedMode.multiplier c.toNat with hmax | hmax
      · exact ends_refused (e := .noop) ⟨c, rfl, hc, hmax⟩
      · exact ends_ok (exec_setSpeedMode_of_le hm (hm ▸ hmax))
    · obtain ⟨h1, h2, h4⟩ : c ≠ 1 ∧ c ≠ 2 ∧ c ≠ 4 := by simpa only [not_or] using hc
      exact ends_refused (e := .invalidArgument) (.inr (.inr ⟨c, rfl, h1, h2, h4⟩))
  | configureRate r =>
    rcases Nat.lt_or_ge s.cfg.params.maxSpeedMode.multiplier (rateMode s.cfg.params r).multiplier with hmax | hmax
    · exact ends_refused (e := .rateTooHigh) ⟨r, rfl, hmax⟩
    · exact ends_ok (exec_configureRate_of_le rfl hmax)
  | getDco | getDetune | getSpeedMode => exact ends_ok rfl
  | getClockSource =>
    by_cases hmapped : ∃ src, (s.S.clockSource, src) ∈ s.cfg.params.clockSourceMap
    · obtain ⟨src, hmem⟩ := hmapped
      obtain ⟨-, -, -, -, -, hnodup, -⟩ := (wf_iff s.cfg.params).mp s.cfg.ok
      exact ends_ok (exec_getClockSource_of_some (lookupSource_of_mem hnodup hmem))
    · exact ends_refused (e := .invalidState) ⟨rfl, not_exists.mp hmapped⟩

/-! ### What an ending shows -/

namespace Ending

variable {i : Instr} {s t : State}

/-- Every ending is a response under one of the seven statuses. -/
theorem exists_respond (h : Ending i s t) : ∃ e r1 r2 n u, n < 8 ∧ t = respond e r1 r2 n u := by
  cases h with
  | ok r1 r2 hn u => exact ⟨_, r1, r2, _, u, hn, rfl⟩
  | timeout _ u => exact ⟨_, 0, 0, 0, u, by omega, rfl⟩
  | refused _ => exact ⟨_, 0, 0, 0, s, by omega, rfl⟩

theorem prepollTimeout (h : Ending i s t) : t.rsp.prepollTimeout = t.hid.prepollTimeout := by
  obtain ⟨e, r1, r2, n, u, hn, rfl⟩ := h.exists_respond
  exact prepollTimeout_respond e hn r1 r2 u

/-- ILLEGAL_COMMAND has no cause in a command. -/
theorem status_le (h : Ending i s t) : t.rsp.status.toNat ≤ 5 := by
  cases h with
  | ok r1 r2 hn u => rw [status_respond .ok hn]; decide
  | timeout _ u => rw [raise, status_respond .timeout (by omega)]; decide
  | @refused e hcause =>
    rw [raise, status_respond e (by omega)]
    cases e with
    | illegalCommand => exact hcause.elim
    | ok | timeout | noop | rateTooHigh | invalidState | invalidArgument => decide

theorem readingTransfer_of_timeout (h : Ending i s t) (hstatus : t.rsp.status = 1) : ReadingTransfer i := by
  cases h with
  | ok r1 r2 hn u => cases (status_respond_iff .ok hn r1 r2 u .timeout).mp hstatus
  | timeout hreads _ => exact hreads
  | @refused e hcause =>
    obtain rfl := (status_respond_iff e (by omega) 0 0 s .timeout).mp hstatus
    exact hcause.elim

/-- A refusal's status has its cause. -/
theorem refusalCause_of_status (h : Ending i s t) {e : Status} (hok : e ≠ .ok) (htimeout : e ≠ .timeout)
    (hstatus : t.rsp.status = BitVec.ofNat 4 e.code) : RefusalCause i s e := by
  cases h with
  | ok r1 r2 hn u => exact absurd ((status_respond_iff .ok hn r1 r2 u e).mp hstatus).symm hok
  | timeout _ u => exact absurd ((status_respond_iff .timeout (by omega) 0 0 u e).mp hstatus).symm htimeout
  | @refused e' hcause =>
    obtain rfl := (status_respond_iff e' (by omega) 0 0 s e).mp hstatus
    exact hcause

theorem words_of_error (h : Ending i s t) (hstatus : t.rsp.status ≠ 0) :
    t.rsp.rsp1 = 0 ∧ t.rsp.rsp2 = 0 ∧ t.rsp.count = 0 := by
  cases h with
  | ok r1 r2 hn u => exact absurd (status_respond .ok hn r1 r2 u) hstatus
  | timeout _ u => exact raise_words .timeout u
  | refused _ => exact raise_words _ s

/-- An error other than TIMEOUT comes before any micro-operation (R114). -/
theorem refused_of_error (h : Ending i s t) (hok : t.rsp.status ≠ 0) (htimeout : t.rsp.status ≠ 1) :
    ∃ e, Refused e s t := by
  cases h with
  | ok r1 r2 hn u => exact absurd (status_respond .ok hn r1 r2 u) hok
  | timeout _ u => exact absurd (status_respond .timeout (by omega) 0 0 u) htimeout
  | @refused e _ => exact ⟨e, refused_raise e s⟩

end Ending

/-- A refusal's status and its cause are equivalent. -/
theorem status_iff_refusalCause {i : Instr} {s t : State} {e : Status} (hexec : exec i s = .next t)
    (hend : Ending i s t) (hok : e ≠ .ok) (htimeout : e ≠ .timeout) :
    t.rsp.status = BitVec.ofNat 4 e.code ↔ RefusalCause i s e := by
  refine ⟨hend.refusalCause_of_status hok htimeout, fun hcause => ?_⟩
  obtain rfl := Host.Outcome.next.inj (hexec.symm.trans (exec_of_refusalCause hcause))
  exact status_respond e (by omega) 0 0 s

/-- Settles O42: a command ends OK, in the timeout of a read phase, or refused; a refusal's cause decides its status. -/
theorem errorStatusesHaveTheirCauses : Obligations.ErrorStatusesHaveTheirCauses := by
  intro i s
  obtain ⟨t, hexec, hend⟩ := exec_ends i s
  have hcause {e : Status} := status_iff_refusalCause (e := e) hexec hend
  refine ⟨t, hexec, hend.status_le, hend.readingTransfer_of_timeout, hcause (e := .noop) nofun nofun,
    hcause (e := .rateTooHigh) nofun nofun, hcause (e := .invalidState) nofun nofun,
    hcause (e := .invalidArgument) nofun nofun, hend.prepollTimeout, fun hok => ?_⟩
  obtain ⟨hr1, hr2, hcount⟩ := hend.words_of_error hok
  refine ⟨hr1, hr2, hcount, nonOk_keeps_S hexec hok, fun htimeout => ?_⟩
  obtain ⟨e, hrefused⟩ := hend.refused_of_error hok htimeout
  exact ⟨hrefused.trace, hrefused.noReads, hrefused.pendingDco⟩

/-! ### A step without a command (R113, R125) -/

theorem step_of_reserved {s : State} {p : Packet} {ps : List Packet} {e : DecodeError} (hreset : s.resetIn = none)
    (hbusy : s.busy = false) (hoffers : s.offers = p :: ps) (hd : decode p = .error e) :
    step s = .next (raise .illegalCommand (accept p { s with offers := ps })) := by
  simp [step, stepWith, hreset, hbusy, hoffers, hd, answerReserved]

/-- Settles O7: a reserved packet is accepted, which clears the pre-poll flag, and then refused. -/
theorem reservedPacketIsAnsweredIllegal : Obligations.ReservedPacketIsAnsweredIllegal := by
  intro s p ps hreset hbusy hoffers hopc
  have hrefused := refused_raise .illegalCommand (accept p { s with offers := ps })
  have hrsp : (⟨rsp0Word .illegalCommand false 0, 0, 0⟩ : Response) = ⟨0x00000006, 0, 0⟩ := by decide
  exact ⟨_, step_of_reserved hreset hbusy hoffers (decode_reserved hopc), hrefused.rsp.trans hrsp,
    hrefused.trace, hrefused.S, hrefused.noReads.prepollTimeout, hrefused.untouched.offers, hrefused.untouched.cfg,
    hrefused.noReads.answers, hrefused.noReads.draws, hrefused.published⟩

/-- Settles O8, through the branches of `step` and `advance` for an idle engine with no packet offered. -/
theorem idleEngineWaits : Obligations.IdleEngineWaits :=
  fun _ hreset hbusy hoffers => ⟨step_of_nothing_offered hreset hbusy hoffers, advance_of_nothing_offered hbusy hoffers⟩

end Sys2Proof.Proofs
end

section
/-! How much a command records (spec/70_reset_and_hazards.md R139): the events of each part of TRANSFER, of MEASURE, and
of the commands that make a fixed number of writes, each within its row of the table. -/

namespace Sys2Proof.Proofs

open Sys2Proof Sys2Proof.Machine Sys2Proof.Laws

/-! ### A command's row (R139) -/

/-- The command ends with a number of events in its row of R139's table, by the status it answers. -/
def EndsInRow (i : Instr) (s : State) : Prop :=
  ∃ t es, exec i s = .next t ∧ t.trace = s.trace ++ es ∧
    (eventBound i (t.rsp.status == 0)).1 ≤ es.length ∧ es.length ≤ (eventBound i (t.rsp.status == 0)).2

section
variable {i : Instr} {s t u : State} {es : List Event}

theorem endsInRow_of_status_ok (hexec : exec i s = .next t) (htrace : t.trace = s.trace ++ es)
    (hstatus : t.rsp.status = 0) (hlow : (eventBound i true).1 ≤ es.length)
    (hhigh : es.length ≤ (eventBound i true).2) : EndsInRow i s := by
  have hok : (t.rsp.status == 0) = true := beq_iff_eq.mpr hstatus
  exact ⟨t, es, hexec, htrace, hok ▸ hlow, hok ▸ hhigh⟩

theorem endsInRow_of_status_error (hexec : exec i s = .next t) (htrace : t.trace = s.trace ++ es)
    (hstatus : t.rsp.status ≠ 0) (hlow : (eventBound i false).1 ≤ es.length)
    (hhigh : es.length ≤ (eventBound i false).2) : EndsInRow i s := by
  have herror : (t.rsp.status == 0) = false := beq_eq_false_iff_ne.mpr hstatus
  exact ⟨t, es, hexec, htrace, herror ▸ hlow, herror ▸ hhigh⟩

/-- A command that makes the writes of its row, all of them, and answers OK. -/
theorem endsInRow_of_ok {r1 r2 : Word} (hexec : exec i s = .next (respond .ok r1 r2 0 u))
    (htrace : u.trace = s.trace ++ es) (hrow : eventBound i true = (es.length, es.length)) : EndsInRow i s :=
  endsInRow_of_status_ok hexec htrace (status_respond .ok (by omega) r1 r2 u) (by rw [hrow]) (by rw [hrow])

/-- A refusal comes before any micro-operation (R114). -/
theorem endsInRow_of_refusal {e : Status} (hexec : exec i s = .next (raise e s)) (he : e ≠ .ok)
    (hrow : eventBound i false = (0, 0)) : EndsInRow i s :=
  endsInRow_of_status_error hexec (List.append_nil _).symm (mt (status_respond_iff e (by omega) 0 0 s .ok).mp he)
    (by rw [hrow, List.length_nil]) (by rw [hrow, List.length_nil])

end

/-! ### TRANSFER: 4 to 46 events, and at least 24 with a timeout -/

/-- The pre-poll: at most 19 events where it is ready, and 20 and the recovery's 2 where it is not (R73). -/
theorem transferPrepoll_length (s : State) :
    ∃ es, Recorded s (transferPrepoll s) es ∧ 1 ≤ es.length ∧ es.length ≤ 22 := by
  rcases hpoll : pollReady .busStatus (busReady s.cfg.params) busPollTries s with ⟨res, u⟩
  obtain ⟨poll, hevents, hpre⟩ := pollReady_recorded hpoll
  rw [transferPrepoll, hpoll]
  cases res with
  | ready v =>
    obtain ⟨k, hk, hk10, hlen⟩ := length_of_pollEvents_ready hevents
    unfold busPollTries at hk10
    exact ⟨poll, hpre, by omega, by omega⟩
  | timeout =>
    have hlen : poll.length = 20 := length_of_pollEvents_timeout hevents
    have hreset := hpre.trans (Recorded.regWrite rfl .busStatus s.cfg.params.busResetValue)
    refine ⟨_, (hreset.trans (Recorded.diag .prepollTimeout _)).flagPrepollTimeout, ?_, ?_⟩ <;> simp [hlen]

theorem length_dataEvents_le (p : Params) (wbits : Half) (wdata : Word) : (dataEvents p wbits wdata).length ≤ 1 := by
  unfold dataEvents
  split <;> simp

/-- Steps 1 to 4: the pre-poll's events, three of the setup, and the data write where there is one (R72). -/
theorem transferWritten_length (cs wbits : Half) (wdata : Word) (rbits : Half) (s : State) :
    ∃ es, Recorded s (transferWritten cs wbits wdata rbits s) es ∧ 4 ≤ es.length ∧ es.length ≤ 26 := by
  obtain ⟨pre, hpre, hlow, hhigh⟩ := transferPrepoll_length s
  have hcounts := hpre.trans (transferSetup_recorded cs wbits rbits _)
  refine ⟨_, hcounts.trans (transferWriteData_recorded wbits wdata _), ?_⟩
  have := length_dataEvents_le (transferSetup cs wbits rbits (transferPrepoll s)).cfg.params wbits wdata
  simp only [List.length_append, setupEvents, List.length_cons, List.length_nil]
  omega

/-- The read half records at most 20 events, and exactly 20 where its poll ends in TIMEOUT. -/
theorem length_of_readHalf {p : Params} {rbits : Half} {flag : Bool} {rd : List Event} {rsp : Response}
    (h : ReadHalf p rbits flag rd rsp) :
    (rsp.status = 0 ∧ rd.length ≤ 20) ∨ (rsp.status ≠ 0 ∧ rd.length = 20) := by
  obtain ⟨hnoRead, hread⟩ := h
  by_cases hguard : 1 ≤ rbits.toNat ∧ rbits.toNat ≤ 32
  · obtain ⟨hevents, rfl⟩ | ⟨poll, v, d, hevents, rfl, rfl⟩ := hread hguard
    · exact .inr ⟨mt (status_eq_zero_iff .timeout flag 0 0).mp nofun, length_of_pollEvents_timeout hevents⟩
    · have hcount : byteCount rbits.toNat < 8 := by
        unfold byteCount
        omega
      obtain ⟨k, hk, hk10, hlen⟩ := length_of_pollEvents_ready hevents
      refine .inl ⟨BitVec.eq_of_toNat_eq (status_of_rsp0Word .ok flag hcount _ _), ?_⟩
      rw [List.length_append, hlen, List.length_singleton]
      omega
  · obtain ⟨rfl, rfl⟩ := hnoRead hguard
    exact .inl ⟨(status_eq_zero_iff .ok flag 0 0).mpr rfl, Nat.zero_le 20⟩

theorem endsInRow_transfer (cs wbits : Half) (wdata : Word) (rbits : Half) (s : State) :
    EndsInRow (.transfer cs wbits wdata rbits) s := by
  obtain ⟨es, hes, hlow, hhigh⟩ := transferWritten_length cs wbits wdata rbits s
  obtain ⟨rd, hhalf, hrd, -⟩ := transferRead_spec rbits (transferWritten cs wbits wdata rbits s)
  have hlen : (es ++ rd).length = es.length + rd.length := List.length_append
  have htrace := (hes.trans hrd).trace
  have hexec := exec_transfer cs wbits wdata rbits s
  rcases length_of_readHalf hhalf with ⟨hstatus, hread⟩ | ⟨hstatus, hread⟩
  · exact endsInRow_of_status_ok hexec htrace hstatus (show 4 ≤ _ by omega) (show _ ≤ 46 by omega)
  · exact endsInRow_of_status_error hexec htrace hstatus (show 24 ≤ _ by omega) (show _ ≤ 46 by omega)

/-! ### MEASURE: 2 to 10 events with a result, 11 without -/

/-- A ready measurement never answers the 0 of a missing one (R86). -/
theorem measuredHz_ne_zero (v : Word) (m : SpeedMode) : measuredHz v m.multiplier ≠ 0 := by
  obtain ⟨-, -, -, -, hlow, -⟩ := readyMeasurementIsNeverZero v m
  intro hzero
  rw [hzero] at hlow
  contradiction

/-- The select write and the poll; R1 tells whether the poll gave a result. -/
theorem measure_length {idx : Word} {s t : State} {es : List Event} (hexec : exec (.measure idx) s = .next t)
    (htrace : t.trace = s.trace ++ es) :
    t.rsp.status = 0 ∧ 2 ≤ es.length ∧ (t.rsp.rsp1 = 0 → es.length = 11) ∧ (t.rsp.rsp1 ≠ 0 → es.length ≤ 10) := by
  rcases hpoll : pollReady .meas measReady measPollTries (regWrite .measSelect (selectWord idx) s) with ⟨res, u⟩
  obtain ⟨poll, hevents, hpolled⟩ := pollReady_recorded hpoll
  obtain rfl := Host.Outcome.next.inj ((exec_measure_of_poll hpoll).symm.trans hexec)
  have hall := (Recorded.regWrite (s := s) rfl .measSelect (selectWord idx)).trans hpolled
  obtain rfl := List.append_cancel_left (htrace.symm.trans hall.trace)
  refine ⟨status_respond .ok (by omega) _ 0 u, ?_⟩
  rw [List.singleton_append, List.length_cons]
  cases res with
  | timeout =>
    have hlen : poll.length = 10 := length_of_pollEvents_timeout hevents
    exact ⟨by omega, fun _ => by omega, fun hresult => absurd rfl hresult⟩
  | ready v =>
    obtain ⟨k, hk, hk5, hlen⟩ := length_of_pollEvents_ready hevents
    unfold measPollTries at hk5
    exact ⟨by omega, fun hnone => absurd hnone (measuredHz_ne_zero v s.S.speedMode), fun _ => by omega⟩

theorem endsInRow_measure (idx : Word) (s : State) : EndsInRow (.measure idx) s := by
  obtain ⟨t, hexec, hdrove, -⟩ := exec_completes (.measure idx) s
  obtain ⟨es, htrace, -⟩ := hdrove.events
  obtain ⟨hstatus, hlow, hnone, hresult⟩ := measure_length hexec htrace
  refine endsInRow_of_status_ok hexec htrace hstatus hlow (show es.length ≤ 11 from ?_)
  by_cases hr1 : t.rsp.rsp1 = 0
  · exact (hnone hr1).le
  · exact (hresult hr1).trans (by omega)

/-! ### Every command -/

/-- A command that polls nothing makes all its writes, or is refused before the first. -/
theorem endsInRow (i : Instr) (s : State) : EndsInRow i s := by
  cases i with
  | transfer cs wbits wdata rbits => exact endsInRow_transfer cs wbits wdata rbits s
  | measure idx => exact endsInRow_measure idx s
  | setDco f m =>
    by_cases hm : millisLegal m = true
    · exact endsInRow_of_ok (exec_setDco_of_legal hm f s) (programDco_trace f m s) rfl
    · exact endsInRow_of_refusal (exec_setDco_of_illegal hm f s) nofun rfl
  | setDetune d =>
    by_cases hd : detuneLegal d = true
    · exact endsInRow_of_ok (exec_setDetune_of_legal hd s) (programDco_trace ..) rfl
    · exact endsInRow_of_refusal (exec_setDetune_of_illegal hd s) nofun rfl
  | setClockSource c => exact endsInRow_of_ok (exec_setClockSource c s) (regWrite_trace ..) rfl
  | setSpeedMode c =>
    by_cases hc : c = 1 ∨ c = 2 ∨ c = 4
    · obtain ⟨m, hm⟩ := exists_mode_of_code hc
      rcases Nat.lt_or_ge s.cfg.params.maxSpeedMode.multiplier m.multiplier with hmax | hmax
      · exact endsInRow_of_refusal (exec_setSpeedMode_of_lt hm hmax) nofun rfl
      · exact endsInRow_of_ok (exec_setSpeedMode_of_le hm hmax) (speedTransition_trace m s) rfl
    · obtain ⟨h1, h2, h4⟩ : c ≠ 1 ∧ c ≠ 2 ∧ c ≠ 4 := by simpa only [not_or] using hc
      exact endsInRow_of_refusal (exec_setSpeedMode_of_illegal (modeOfCode_eq_none h1 h2 h4)) nofun rfl
  | configureRate r =>
    rcases Nat.lt_or_ge s.cfg.params.maxSpeedMode.multiplier (rateMode s.cfg.params r).multiplier with hmax | hmax
    · exact endsInRow_of_refusal (exec_configureRate_of_lt rfl hmax) nofun rfl
    · exact endsInRow_of_ok (exec_configureRate_of_le rfl hmax) (rateTransition_trace r _ s) rfl
  | getDco | getDetune | getSpeedMode => exact endsInRow_of_ok (es := []) rfl (List.append_nil _).symm rfl
  | getClockSource =>
    cases hmapped : clockSourceMap s.cfg.params s.S.clockSource with
    | some src => exact endsInRow_of_ok (exec_getClockSource_of_some hmapped) (List.append_nil _).symm rfl
    | none => exact endsInRow_of_refusal (exec_getClockSource_of_none hmapped) nofun rfl

/-- Settles O44: each command ends in its row, and MEASURE's response tells which of its two counts it is. -/
theorem everyCommandIsBounded : Obligations.EveryCommandIsBounded := by
  intro i s
  obtain ⟨t, es, hexec, htrace, hlow, hhigh⟩ := endsInRow i s
  obtain ⟨huntouched, hpublished⟩ := exec_frame hexec
  refine ⟨t, es, hexec, htrace, hlow, hhigh, ?_, hpublished, huntouched⟩
  rintro idx rfl
  obtain ⟨hstatus, -, hnone, hresult⟩ := measure_length hexec htrace
  exact ⟨hstatus, hnone, hresult⟩

end Sys2Proof.Proofs
end

section
/-! Runs (spec/70_reset_and_hazards.md R128, R139, R141): every step of a coherent engine takes one piece of work off, and
a reset in the middle of a command cuts the command's run short. -/

namespace Sys2Proof.Proofs

open Sys2Proof Sys2Proof.Machine Sys2Proof.Laws

/-! ### What a run of the sequencer keeps -/

theorem microRun_keeps_resetIn (n : Nat) (s : State) : (microRun n s).resetIn = s.resetIn := by
  induction n generalizing s with
  | zero => rfl
  | succ n ih => exact (ih (microStep s)).trans (frame_microStep s).resetIn

/-- No run takes a recorded event back (R128). -/
theorem trace_prefix_microRun (n : Nat) (s : State) : s.trace <+: (microRun n s).trace := by
  induction n generalizing s with
  | zero => exact List.prefix_refl _
  | succ n ih =>
    obtain ⟨es, htrace, -⟩ := atMostOne_microStep s
    exact (htrace ▸ List.prefix_append s.trace es).trans (ih (microStep s))

/-- The sequencer starts no command by itself: an idle coherent engine stays as it is (R125). -/
theorem busy_of_busy_microRun {n : Nat} {s : State} (h : Coherent s = true) (hb : (microRun n s).busy = true) :
    s.busy = true := by
  obtain ⟨hhand, -, -, -⟩ := (coherent_iff s).mp h
  cases hbusy : s.busy with
  | true => rfl
  | false =>
    rw [microRun_idle n s (((handshakeOk_iff s).mp hhand).2 hbusy), hbusy] at hb
    contradiction

/-! ### Working off the host's packets (R139, R141) -/

/-- What is left to do: the command in progress, and the packets still offered. -/
def pendingWork (s : State) : Nat := s.busy.toNat + s.offers.length

theorem pendingWork_eq_zero_iff (s : State) : pendingWork s = 0 ↔ s.busy = false ∧ s.offers = [] := by
  simp [pendingWork]

/-- From `s` to `t` a coherent engine with no reset on its way has done a piece of its work, if it had any. -/
structure Worked (s t : State) : Prop where
  coherent : Coherent t = true
  resetIn  : t.resetIn = none
  pending  : pendingWork t = pendingWork s - 1
  trace    : s.trace <+: t.trace

/-- A command run to its response is a piece of work. -/
theorem worked_finish {s : State} (h : Coherent s = true) (hreset : s.resetIn = none) (hb : s.busy = true) :
    Worked s (finish s) := by
  obtain ⟨n, -, hidle, -, hfinish, -⟩ := commandInProgressReachesItsResponse s h hb
  rw [hfinish] at hidle
  refine ⟨coherent_finish h, (microRun_keeps_resetIn _ s).trans hreset, ?_, trace_prefix_microRun _ s⟩
  rw [pendingWork, pendingWork, hidle, hb, show (finish s).offers = s.offers from microRun_keeps_offers _ s]
  simp

theorem step_works {s : State} (h : Coherent s = true) (hreset : s.resetIn = none) :
    ∃ t, step s = .next t ∧ Worked s t := by
  cases hbusy : s.busy with
  | true =>
    obtain ⟨hhand, -, -, -⟩ := (coherent_iff s).mp h
    exact ⟨_, step_of_busy hreset hbusy (((handshakeOk_iff s).mp hhand).1 hbusy), worked_finish h hreset hbusy⟩
  | false =>
    cases hoffers : s.offers with
    | nil =>
      have hnone := (pendingWork_eq_zero_iff s).mpr ⟨hbusy, hoffers⟩
      exact ⟨s, step_of_nothing_offered hreset hbusy hoffers, h, hreset, by omega, List.prefix_refl _⟩
    | cons p ps =>
      have hworked := worked_finish (coherent_accept p ps h) hreset rfl
      have hpending : pendingWork (accept p { s with offers := ps }) = pendingWork s := by
        simp [pendingWork, accept, hbusy, hoffers, Nat.add_comm]
      exact ⟨_, step_of_offer hreset hbusy hoffers, hworked.coherent, hworked.resetIn, hpending ▸ hworked.pending,
        hworked.trace⟩

theorem core_run_zero (s : State) : Host.Core.run Sys2Proof.core 0 s = .next s := rfl

theorem core_run_succ {s t : State} (n : Nat) (h : step s = .next t) :
    Host.Core.run Sys2Proof.core (n + 1) s = Host.Core.run Sys2Proof.core n t := by
  simp only [Host.Core.run, show Sys2Proof.core.step s = .next t from h]

/-- As many steps as there is work lead to an idle engine with every packet taken; more do no harm. -/
theorem run_works_off (n : Nat) {s : State} (h : Coherent s = true) (hreset : s.resetIn = none)
    (hn : pendingWork s ≤ n) :
    ∃ t, Host.Core.run Sys2Proof.core n s = .next t ∧ pendingWork t = 0 ∧ Coherent t = true ∧ s.trace <+: t.trace := by
  induction n generalizing s with
  | zero => exact ⟨s, core_run_zero s, Nat.le_zero.mp hn, h, List.prefix_refl _⟩
  | succ n ih =>
    obtain ⟨u, hstep, hworked⟩ := step_works h hreset
    have hfewer : pendingWork u ≤ n := by
      have := hworked.pending
      omega
    obtain ⟨t, hrun, hdone, hcoherent, htrace⟩ := ih hworked.coherent hworked.resetIn hfewer
    exact ⟨t, (core_run_succ n hstep).trans hrun, hdone, hcoherent, hworked.trace.trans htrace⟩

/-- Settles O50: the work is at most one step more than there are packets, for the command in progress. -/
theorem everyRunEnds : Obligations.EveryRunEnds := by
  intro s h hreset
  have hwork : pendingWork s ≤ s.offers.length + 1 := by
    have := s.busy.toNat_le
    unfold pendingWork
    omega
  obtain ⟨t, hrun, hdone, hcoherent, es, htrace⟩ := run_works_off (s.offers.length + 1) h hreset hwork
  obtain ⟨hbusy, hoffers⟩ := (pendingWork_eq_zero_iff t).mp hdone
  exact ⟨t, hrun, hoffers, hbusy, hcoherent, es, htrace.symm⟩

/-! ### A reset in the middle of a command (R128) -/

/-- While the command runs, engine and host together do what the sequencer alone does (R45). -/
theorem advanceRun_eq_microRun {n : Nat} {s : State} (h : Coherent s = true) (hb : (microRun n s).busy = true) :
    advanceRun n s = microRun n s := by
  induction n generalizing s with
  | zero => rfl
  | succ n ih =>
    rw [advanceRun, advance_of_busy (busy_of_busy_microRun h hb)]
    exact ih (coherent_microStep h) hb

/-- Where the command is still in progress, its run to the response is yet to come. -/
theorem finish_eq_of_busy {k : Nat} {s : State} (h : Coherent s = true) (hb : (microRun k s).busy = true) :
    ∃ n, finish s = microRun n (microRun k s) := by
  obtain ⟨n, -, hidle, -, hfinish, -⟩ := commandInProgressReachesItsResponse s h (busy_of_busy_microRun h hb)
  rcases Nat.le_total k n with hkn | hnk
  · exact ⟨n - k, by rw [← hfinish, ← microRun_add, Nat.add_sub_cancel' hkn]⟩
  · rw [← Nat.add_sub_cancel' hnk, microRun_add] at hb
    have hbusy := busy_of_busy_microRun (coherent_microRun n h) hb
    rw [hidle] at hbusy
    contradiction

/-- Settles O53: the step is the reset of the state the command has reached, which keeps its trace and no more of the
command. -/
theorem resetAbandonsTheCommand : Obligations.ResetAbandonsTheCommand := by
  intro s k h _ hreset hb
  have hstep := step_of_reset hreset
  rw [advanceRun_eq_microRun h hb] at hstep
  have hcfg := microRun_keeps_cfg k s
  obtain ⟨n, hfinish⟩ := finish_eq_of_busy h hb
  have htrace : (microRun k s).trace <+: (finish s).trace := hfinish ▸ trace_prefix_microRun n (microRun k s)
  exact ⟨_, hstep, rfl, trace_prefix_microRun k s, htrace, congrArg Stored.atReset hcfg,
    rfl, rfl, rfl, rfl, rfl, hcfg, microRun_keeps_offers k s⟩

end Sys2Proof.Proofs
end
